-- ==== Sys2Proof/Word.lean ====
section
/-! DEFINITION. The byte of the rack link and the numbers of the replicated units (spec/00, "Numbering of units"). -/

namespace Sys2Proof

/-- One byte of the rack link line. -/
abbrev Byte := BitVec 8

/-- Bays 0..7. -/
abbrev BayId := Fin 8

/-- Arms and their meters 0..23. -/
abbrev ArmId := Fin 24

/-- Injectors 0..15. -/
abbrev InjId := Fin 16

/-- Profile cache slots 0..11. -/
abbrev EntryId := Fin 12

/-- Note slots 0..47. -/
abbrev SlotId := Fin 48

end Sys2Proof
end

