-- ==== Sys2Proof/Syntax.lean ====
section
/-! DEFINITION. The commands: one constructor per row of spec/opcode_table.json, in the table's order.
A request carries the tag and the body bytes of its frame (R185); its kind is the code of R194.
A panel frame carries its bay and its fields (R32); a field line event its unit and what the line shows. -/

namespace Sys2Proof

/-- The four permissive inputs of a bay (R29). -/
inductive Permissive where
  | ground | vapour | overfill | estop
  deriving DecidableEq, Repr

/-- Levels of a bay's four permissive inputs; true is healthy (R29). -/
structure Permissives where
  ground : Bool
  vapour : Bool
  overfill : Bool
  estop : Bool
  deriving DecidableEq, Repr

/-- What the pins show when power is applied: the strap (true is high), CAL, and each bay's permissives (R49, R173, R175). -/
structure PowerOnPins where
  strap : Bool
  cal : Bool
  inputs : Vector Permissives 8
  deriving DecidableEq, Repr

/-- The two pulse channels of an arm (R81). -/
inductive Channel where
  | a | b
  deriving DecidableEq, Repr

/-- What brings an injector to FAULT: the expiry of a stroke, or a confirm edge (R139). -/
inductive FaultBy where
  | miss | stray
  deriving DecidableEq, Repr

/-- The commands of spec/opcode_table.json. -/
inductive Instr where
  /-- POWER_ON_RESET (R184) -/
  | powerOnReset (pins : PowerOnPins)
  /-- RESTART_INPUT (R182) -/
  | restartInput
  /-- RECEIVE_BYTE (R186) -/
  | receiveByte (byte : Byte) (framingError : Bool)
  /-- GAP_TIMER_EXPIRY (R186) -/
  | gapTimerExpiry
  /-- RESPONSE_SENT (R191) -/
  | responseSent
  /-- UNKNOWN_REQUEST (R189) -/
  | unknownRequest (kind : Byte) (tag : Byte) (body : List Byte)
  /-- PERMIT_PUT (R4) -/
  | permitPut (tag : Byte) (body : List Byte)
  /-- PERMIT_GET (R8) -/
  | permitGet (tag : Byte) (body : List Byte)
  /-- PERMIT_SUSPEND (R5) -/
  | permitSuspend (tag : Byte) (body : List Byte)
  /-- PERMIT_RESUME (R5) -/
  | permitResume (tag : Byte) (body : List Byte)
  /-- PERMIT_UNLOCK (R6) -/
  | permitUnlock (tag : Byte) (body : List Byte)
  /-- PERMIT_RETIRE (R7) -/
  | permitRetire (tag : Byte) (body : List Byte)
  /-- WALK (R9) -/
  | walk (tag : Byte) (body : List Byte)
  /-- ORDER_POST (R23) -/
  | orderPost (tag : Byte) (body : List Byte)
  /-- ORDER_GET (R21) -/
  | orderGet (tag : Byte) (body : List Byte)
  /-- ORDER_CANCEL (R24) -/
  | orderCancel (tag : Byte) (body : List Byte)
  /-- ORDER_END (R42) -/
  | orderEnd (tag : Byte) (body : List Byte)
  /-- BAY_OPEN (R30) -/
  | bayOpen (tag : Byte) (body : List Byte)
  /-- BAY_CLOSE (R31) -/
  | bayClose (tag : Byte) (body : List Byte)
  /-- BAY_GET (R29) -/
  | bayGet (tag : Byte) (body : List Byte)
  /-- HOLD_SET (R43) -/
  | holdSet (tag : Byte) (body : List Byte)
  /-- HOLD_CLEAR (R43) -/
  | holdClear (tag : Byte) (body : List Byte)
  /-- AUTH_GRANT (R35) -/
  | authGrant (tag : Byte) (body : List Byte)
  /-- AUTH_DENY (R36) -/
  | authDeny (tag : Byte) (body : List Byte)
  /-- REFERRAL_LIST (R34) -/
  | referralList (tag : Byte) (body : List Byte)
  /-- ARM_SET (R52) -/
  | armSet (tag : Byte) (body : List Byte)
  /-- ARM_GET (R52) -/
  | armGet (tag : Byte) (body : List Byte)
  /-- ARM_START (R60) -/
  | armStart (tag : Byte) (body : List Byte)
  /-- ARM_STOP (R77) -/
  | armStop (tag : Byte) (body : List Byte)
  /-- ARM_CLEAR (R78) -/
  | armClear (tag : Byte) (body : List Byte)
  /-- PROFILE_LOAD (R112) -/
  | profileLoad (tag : Byte) (body : List Byte)
  /-- PROFILE_READ (R115) -/
  | profileRead (tag : Byte) (body : List Byte)
  /-- PROFILE_DROP (R114) -/
  | profileDrop (tag : Byte) (body : List Byte)
  /-- PROFILE_LIST (R115) -/
  | profileList (tag : Byte) (body : List Byte)
  /-- WANT_LIST (R110) -/
  | wantList (tag : Byte) (body : List Byte)
  /-- RECIPE_PUT (R122) -/
  | recipePut (tag : Byte) (body : List Byte)
  /-- RECIPE_GET (R123) -/
  | recipeGet (tag : Byte) (body : List Byte)
  /-- RECIPE_RETIRE (R123) -/
  | recipeRetire (tag : Byte) (body : List Byte)
  /-- RECIPE_LIST (R123) -/
  | recipeList (tag : Byte) (body : List Byte)
  /-- INJECTOR_SET (R126) -/
  | injectorSet (tag : Byte) (body : List Byte)
  /-- INJECTOR_SHOT (R127) -/
  | injectorShot (tag : Byte) (body : List Byte)
  /-- INJECTOR_CLEAR (R128) -/
  | injectorClear (tag : Byte) (body : List Byte)
  /-- INJECTOR_GET (R129) -/
  | injectorGet (tag : Byte) (body : List Byte)
  /-- QUEUE_LIST (R132) -/
  | queueList (tag : Byte) (body : List Byte)
  /-- NOTE_PEEK (R157) -/
  | notePeek (tag : Byte) (body : List Byte)
  /-- NOTE_TAKE (R158) -/
  | noteTake (tag : Byte) (body : List Byte)
  /-- NOTE_LIST (R159) -/
  | noteList (tag : Byte) (body : List Byte)
  /-- SERIAL_SET (R160) -/
  | serialSet (tag : Byte) (body : List Byte)
  /-- CLOCK_SET (R165) -/
  | clockSet (tag : Byte) (body : List Byte)
  /-- CLOCK_GET (R165) -/
  | clockGet (tag : Byte) (body : List Byte)
  /-- ATTENTION_READ (R171) -/
  | attentionRead (tag : Byte) (body : List Byte)
  /-- ATTENTION_EDGES (R168) -/
  | attentionEdges (tag : Byte) (body : List Byte)
  /-- MODE_SET (R174) -/
  | modeSet (tag : Byte) (body : List Byte)
  /-- SEAL_SET (R179) -/
  | sealSet (tag : Byte) (body : List Byte)
  /-- SETTINGS_GET (R184) -/
  | settingsGet (tag : Byte) (body : List Byte)
  /-- LINK_GET (R193) -/
  | linkGet (tag : Byte) (body : List Byte)
  /-- RESTART (R182) -/
  | restart (tag : Byte) (body : List Byte)
  /-- MALFORMED_PANEL_FRAME (R32) -/
  | malformedPanelFrame (bay : BayId)
  /-- CARD (R33) -/
  | card (bay : BayId) (cardId : Nat)
  /-- START (R40) -/
  | start (bay : BayId) (arm : Nat) (compartment : Nat)
  /-- STOP (R40) -/
  | stop (bay : BayId) (arm : Nat)
  /-- END (R42) -/
  | endVisit (bay : BayId)
  /-- PERMISSIVE_CHANGE (R43): the input and the level it changes to -/
  | permissiveChange (bay : BayId) (input : Permissive) (healthy : Bool)
  /-- METER_PULSE (R81) -/
  | meterPulse (arm : ArmId) (channel : Channel)
  /-- SAMPLE_FRAME (R82): the value is two's complement centidegrees; a frame that fails its check or is incomplete is not intact -/
  | sampleFrame (arm : ArmId) (value : BitVec 16) (intact : Bool)
  /-- FRESHNESS_TIMER_EXPIRY (R82) -/
  | freshnessTimerExpiry (arm : ArmId)
  /-- CONFIRM_EDGE (R136) -/
  | confirmEdge (injector : InjId)
  /-- CONFIRM_TIMER_EXPIRY (R137) -/
  | confirmTimerExpiry (injector : InjId)
  /-- INJECTOR_FAULT (R139) -/
  | injectorFault (injector : InjId) (cause : FaultBy)
  /-- CAL_ASSERTION (R176) -/
  | calAssertion
  /-- CAL_RELEASE (R178) -/
  | calRelease
  /-- MINUTE_TIMER_EXPIRY (R163) -/
  | minuteTimerExpiry
  /-- REFERRAL_TIMER_EXPIRY (R37) -/
  | referralTimerExpiry (bay : BayId)
  /-- CARD_IDLE_TIMER_EXPIRY (R39) -/
  | cardIdleTimerExpiry (bay : BayId)
  /-- HOLD_WINDOW_EXPIRY (R46) -/
  | holdWindowExpiry (bay : BayId)
  /-- WANT_TIMER_EXPIRY (R61) -/
  | wantTimerExpiry (arm : ArmId)
  /-- INJECTOR_WAIT_TIMER_EXPIRY (R63) -/
  | injectorWaitTimerExpiry (arm : ArmId)
  /-- METERING_PERIOD_EXPIRY (R66) -/
  | meteringPeriodExpiry (arm : ArmId)
  /-- FLOW_END (R71) -/
  | flowEnd (arm : ArmId)
  /-- LEAK (R71) -/
  | leak (arm : ArmId)
  /-- NO_FLOW (R67) -/
  | noFlow (arm : ArmId)
  /-- TEMP_FAULT (R67) -/
  | tempFault (arm : ArmId)
  /-- METER_FAULT (R67) -/
  | meterFault (arm : ArmId)
  deriving DecidableEq, Repr

end Sys2Proof
end

