-- ==== Sys2Proof/Decode.lean ====
section
/-! DEFINITION. How commands are spelled. The opcode table gives no row any bits, so no word spells a command
(decodeTableWord). What is spelled on the rack link is the request frame: the request code table of R194 gives each
request's kind (kindOf), and a taken frame's kind gives the request back (requestOf). -/

namespace Sys2Proof

/-- The command that a word spells by the table's bits: the table gives no row bits, so none. -/
def decodeTableWord (_nbits _w : Nat) : Option Instr := none

/-- The kind byte of the frame that carries a request (R194); none for a command that is no request frame. -/
def kindOf : Instr → Option Byte
  | .unknownRequest kind _ _ => some kind
  | .permitPut _ _ => some 0x10
  | .permitGet _ _ => some 0x11
  | .permitSuspend _ _ => some 0x12
  | .permitResume _ _ => some 0x13
  | .permitUnlock _ _ => some 0x14
  | .permitRetire _ _ => some 0x15
  | .walk _ _ => some 0x16
  | .orderPost _ _ => some 0x20
  | .orderGet _ _ => some 0x21
  | .orderCancel _ _ => some 0x22
  | .orderEnd _ _ => some 0x23
  | .bayOpen _ _ => some 0x28
  | .bayClose _ _ => some 0x29
  | .bayGet _ _ => some 0x2A
  | .holdSet _ _ => some 0x2B
  | .holdClear _ _ => some 0x2C
  | .authGrant _ _ => some 0x2D
  | .authDeny _ _ => some 0x2E
  | .referralList _ _ => some 0x2F
  | .armSet _ _ => some 0x30
  | .armGet _ _ => some 0x31
  | .armStart _ _ => some 0x32
  | .armStop _ _ => some 0x33
  | .armClear _ _ => some 0x34
  | .profileLoad _ _ => some 0x40
  | .profileRead _ _ => some 0x41
  | .profileDrop _ _ => some 0x42
  | .profileList _ _ => some 0x43
  | .wantList _ _ => some 0x44
  | .recipePut _ _ => some 0x50
  | .recipeGet _ _ => some 0x51
  | .recipeRetire _ _ => some 0x52
  | .recipeList _ _ => some 0x53
  | .injectorSet _ _ => some 0x58
  | .injectorShot _ _ => some 0x59
  | .injectorClear _ _ => some 0x5A
  | .injectorGet _ _ => some 0x5B
  | .queueList _ _ => some 0x5C
  | .notePeek _ _ => some 0x60
  | .noteTake _ _ => some 0x61
  | .noteList _ _ => some 0x62
  | .serialSet _ _ => some 0x63
  | .clockSet _ _ => some 0x70
  | .clockGet _ _ => some 0x71
  | .attentionRead _ _ => some 0x72
  | .attentionEdges _ _ => some 0x73
  | .modeSet _ _ => some 0x78
  | .sealSet _ _ => some 0x79
  | .settingsGet _ _ => some 0x7A
  | .linkGet _ _ => some 0x7B
  | .restart _ _ => some 0x7E
  | .powerOnReset _ => none
  | .restartInput => none
  | .receiveByte _ _ => none
  | .gapTimerExpiry => none
  | .responseSent => none
  | .malformedPanelFrame _ => none
  | .card _ _ => none
  | .start _ _ _ => none
  | .stop _ _ => none
  | .endVisit _ => none
  | .permissiveChange _ _ _ => none
  | .meterPulse _ _ => none
  | .sampleFrame _ _ _ => none
  | .freshnessTimerExpiry _ => none
  | .confirmEdge _ => none
  | .confirmTimerExpiry _ => none
  | .injectorFault _ _ => none
  | .calAssertion => none
  | .calRelease => none
  | .minuteTimerExpiry => none
  | .referralTimerExpiry _ => none
  | .cardIdleTimerExpiry _ => none
  | .holdWindowExpiry _ => none
  | .wantTimerExpiry _ => none
  | .injectorWaitTimerExpiry _ => none
  | .meteringPeriodExpiry _ => none
  | .flowEnd _ => none
  | .leak _ => none
  | .noFlow _ => none
  | .tempFault _ => none
  | .meterFault _ => none

/-- The request that a taken frame of a kind is (R189, R194): a kind outside the table is UNKNOWN_REQUEST. -/
def requestOf (kind tag : Byte) (body : List Byte) : Instr :=
  match kind.toNat with
  | 0x10 => .permitPut tag body
  | 0x11 => .permitGet tag body
  | 0x12 => .permitSuspend tag body
  | 0x13 => .permitResume tag body
  | 0x14 => .permitUnlock tag body
  | 0x15 => .permitRetire tag body
  | 0x16 => .walk tag body
  | 0x20 => .orderPost tag body
  | 0x21 => .orderGet tag body
  | 0x22 => .orderCancel tag body
  | 0x23 => .orderEnd tag body
  | 0x28 => .bayOpen tag body
  | 0x29 => .bayClose tag body
  | 0x2A => .bayGet tag body
  | 0x2B => .holdSet tag body
  | 0x2C => .holdClear tag body
  | 0x2D => .authGrant tag body
  | 0x2E => .authDeny tag body
  | 0x2F => .referralList tag body
  | 0x30 => .armSet tag body
  | 0x31 => .armGet tag body
  | 0x32 => .armStart tag body
  | 0x33 => .armStop tag body
  | 0x34 => .armClear tag body
  | 0x40 => .profileLoad tag body
  | 0x41 => .profileRead tag body
  | 0x42 => .profileDrop tag body
  | 0x43 => .profileList tag body
  | 0x44 => .wantList tag body
  | 0x50 => .recipePut tag body
  | 0x51 => .recipeGet tag body
  | 0x52 => .recipeRetire tag body
  | 0x53 => .recipeList tag body
  | 0x58 => .injectorSet tag body
  | 0x59 => .injectorShot tag body
  | 0x5A => .injectorClear tag body
  | 0x5B => .injectorGet tag body
  | 0x5C => .queueList tag body
  | 0x60 => .notePeek tag body
  | 0x61 => .noteTake tag body
  | 0x62 => .noteList tag body
  | 0x63 => .serialSet tag body
  | 0x70 => .clockSet tag body
  | 0x71 => .clockGet tag body
  | 0x72 => .attentionRead tag body
  | 0x73 => .attentionEdges tag body
  | 0x78 => .modeSet tag body
  | 0x79 => .sealSet tag body
  | 0x7A => .settingsGet tag body
  | 0x7B => .linkGet tag body
  | 0x7E => .restart tag body
  | _ => .unknownRequest kind tag body

/-- The request code table of R194. -/
def requestCodes : List Nat :=
  [0x10, 0x11, 0x12, 0x13, 0x14, 0x15, 0x16, 0x20, 0x21, 0x22, 0x23, 0x28,
   0x29, 0x2A, 0x2B, 0x2C, 0x2D, 0x2E, 0x2F, 0x30, 0x31, 0x32, 0x33, 0x34,
   0x40, 0x41, 0x42, 0x43, 0x44, 0x50, 0x51, 0x52, 0x53, 0x58, 0x59, 0x5A,
   0x5B, 0x5C, 0x60, 0x61, 0x62, 0x63, 0x70, 0x71, 0x72, 0x73, 0x78, 0x79,
   0x7A, 0x7B, 0x7E]

/-- A frame's body has at most 248 bytes: L is 2..250 and counts kind and tag (R185). -/
def bodyFits (body : List Byte) : Bool := body.length ≤ 248

/-- A card id is 1..4,294,967,294 (R32). -/
def cardIdValid (c : Nat) : Bool := 1 ≤ c && c ≤ 4294967294

/-- A panel frame's arm is 0..23 (R32). -/
def panelArmValid (a : Nat) : Bool := a < 24

/-- A compartment is 1..8 (R32). -/
def compartmentValid (c : Nat) : Bool := 1 ≤ c && c ≤ 8

end Sys2Proof
end

