-- ==== Sys2Proof/Config.lean ====
section
/-! DEFINITION. What the manual fixes once for the part: capacities, durations in milliseconds and limits
(spec/00, "Capacities" and "Time"). The manual leaves no stored value undefined, so no free value stands here. -/

namespace Sys2Proof.Config

/-- Permit records (R1). -/
def permitCapacity : Nat := 512
/-- Load orders (R21). -/
def orderCapacity : Nat := 64
/-- Recipes (R121). -/
def recipeCapacity : Nat := 32
/-- Inbound frames (R188). -/
def inboundCapacity : Nat := 2
/-- Outbound responses (R191). -/
def outboundCapacity : Nat := 4
/-- Sources that one ATTENTION READ returns at most (R171). -/
def attentionBatch : Nat := 24
/-- Slots that one NOTE LIST returns at most (R159). -/
def noteBatch : Nat := 16

/-- Gap timer, 50 ms (R186). -/
def gapMs : Nat := 50
/-- Metering period, 250 ms (R64). -/
def periodMs : Nat := 250
/-- Sample freshness, 2.0 s (R82). -/
def freshnessMs : Nat := 2000
/-- Shot confirm, 2.0 s (R135). -/
def confirmMs : Nat := 2000
/-- Profile want wait, 20 s (R61). -/
def wantMs : Nat := 20000
/-- Mandatory injector wait, 30 s (R62). -/
def injectorWaitMs : Nat := 30000
/-- Referral answer, 30 s (R33). -/
def referralMs : Nat := 30000
/-- Minute timer, 60 s (R163). -/
def minuteMs : Nat := 60000
/-- Hold window, 120 s (R44). -/
def holdWindowMs : Nat := 120000
/-- Card idle, 10 min (R38). -/
def cardIdleMs : Nat := 600000

/-- Segments per order line (R22). -/
def maxSegments : Nat := 4
/-- Smallest trimmed segment, litres (R15). -/
def minTrim : Nat := 100
/-- Strikes that lock a permit (R18). -/
def maxStrikes : Nat := 3
/-- Top of used_L (R16). -/
def maxUsed : Nat := 9999999
/-- Pulses a period counter holds at most (R81). -/
def maxPulses : Nat := 2500
/-- Top of a 32-bit count or total (R92, R193). -/
def top32 : Nat := 4294967295
/-- Top of a 16-bit count (R180, R181). -/
def top16 : Nat := 65535
/-- Largest flow rate, lpm (R86). -/
def maxFlow : Nat := 9999
/-- Least volume correction factor, ppm (R90). -/
def vcfMin : Int := 850000
/-- Largest volume correction factor, ppm (R90). -/
def vcfMax : Int := 1150000
/-- Runaway guard, ml (R67). -/
def runawayMl : Nat := 1000000
/-- Hold age that closes a flowing segment (R67). -/
def tempFaultAge : Nat := 121
/-- Zero-pulse run that closes a flowing segment (R67). -/
def noFlowRun : Nat := 40
/-- Zero-pulse run that is flow end (R71). -/
def flowEndRun : Nat := 2
/-- Close counter that is a leak (R71). -/
def leakPeriods : Nat := 20
/-- Largest close advance, ml (R72). -/
def maxCloseAdvance : Nat := 200000
/-- Consecutive misses to FAULT (R137). -/
def missLimit : Nat := 3
/-- Strays to FAULT (R138). -/
def strayLimit : Nat := 5

/-- How many parts of one event the event's list of parts may have before it is cut off.
DESIGN CHOICE (log 11): no event comes near it. -/
def eventParts : Nat := 1000

end Sys2Proof.Config
end

