-- ==== Sys2Proof/Machine/State.lean ====
section
/-! DEFINITION. The state of the HK-816: every record, counter, timer, list and setting the manual gives it
(INVENTORY.md lists each with its rule), the model's own output history and the queue of waiting commands, the
reasons a step can stop, and the state right after a power-on reset. Timers are milliseconds left; none is stopped. -/

namespace Sys2Proof.Machine

/-! ## Permits (R1) -/

/-- Standing of a permit (R2). -/
inductive PermitState where
  | active | suspended | locked | retiring
  deriving DecidableEq, Repr

/-- A permit record (R1). -/
structure Permit where
  card : Nat
  state : PermitState
  carrier : Nat
  /-- bit c is set when class c is endorsed -/
  endorsements : BitVec 10
  validFrom : Nat
  validUntil : Nat
  allowance : Option Nat
  used : Nat
  reserved : Nat
  strikes : Nat
  boundOrder : Option Nat
  deriving DecidableEq, Repr

/-! ## Recipes and orders (R21, R22, R121) -/

/-- One component of a recipe (R121). -/
structure Component where
  cls : Nat
  dose : Nat
  mandatory : Bool
  deriving DecidableEq, Repr

/-- A recipe (R121). -/
structure Recipe where
  id : Nat
  components : List Component
  deriving DecidableEq, Repr

/-- The volume a preset is measured on (R22). -/
inductive Basis where
  | gross | net
  deriving DecidableEq, Repr

/-- State of an order line (R22, R27); `opened` is OPEN. -/
inductive LineState where
  | opened | active | part | filled | spent
  deriving DecidableEq, Repr

/-- A line of a load order (R22). -/
structure Line where
  compartment : Nat
  product : Nat
  presetL : Nat
  basis : Basis
  recipe : Option Nat
  snapshot : Option (List Component)
  state : LineState
  segmentsUsed : Nat
  deriving DecidableEq, Repr

/-- State of an order (R21, R26). -/
inductive OrderState where
  | posted | bound | loading
  deriving DecidableEq, Repr

/-- A load order (R21). -/
structure Order where
  orderNo : Nat
  card : Nat
  bayPref : Option Nat
  state : OrderState
  bay : Option BayId
  noteSlot : Option SlotId
  lines : List Line
  deriving DecidableEq, Repr

/-! ## End causes, refusal reasons and prompts -/

/-- End causes, in the order of R75. -/
inductive EndCause where
  | closed | stopped | hold | estop | overfill | noFlow | meterFault | tempFault | doseFault | calSeal | leak | restart
  | profileTimeout | injectorTimeout | noRecipe | serialSpent
  deriving DecidableEq, Repr

/-- Refusal reasons, in the order of their codes 0x01..0x1A (R190). -/
inductive Reason where
  | noPermit | suspended | locked | retiring | notYetValid | expired | cardInUse | notCarded | bayHold
  | wrongArm | armBusy | armFault | noLine | lineBusy | lineDone | permitStopped | notEndorsed | calibrating
  | notesFull | serialSpent | allowance | noOrder | denied | noAnswer | bayClosed | noSegment
  deriving DecidableEq, Repr

/-- Panel prompts (R48). -/
inductive Prompt where
  | welcome (orderNo : Nat)
  | checking
  | refused (reason : Reason)
  | select (lines : Nat)
  | loading (arm : ArmId)
  | hold (seconds : Nat)
  | tripped
  | stopped (arm : ArmId) (cause : EndCause)
  | done (serial : Nat)
  | busy
  deriving DecidableEq, Repr

/-! ## Bays and referrals (R29, R34) -/

/-- State of a bay (R29). -/
inductive BayState where
  | closed | idle | authorizing | carded | loading | hold | tripped | ending
  deriving DecidableEq, Repr

/-- A bay record (R29), with the prompt its display shows (R48). -/
structure Bay where
  state : BayState
  card : Option Nat
  boundOrder : Option Nat
  inputs : Permissives
  /-- bit f is set when host flag f is in the hold-flag set -/
  holdFlags : BitVec 8
  holdWindow : Option Nat
  referralTimer : Option Nat
  cardIdleTimer : Option Nat
  closePending : Bool
  display : Option Prompt
  deriving DecidableEq, Repr

/-- An outstanding referral (R34). -/
structure Referral where
  bay : BayId
  card : Nat
  minute : Nat
  deriving DecidableEq, Repr

/-! ## Arms and segments (R51, R55) -/

/-- Who started a segment (R55). -/
inductive Origin where
  | panel | host | resume
  deriving DecidableEq, Repr

/-- Phase of a segment, in the order of R55. -/
inductive Phase where
  | awaitProfile | awaitInjector | lowStart | high | lowStop | closing | pausing
  deriving DecidableEq, Repr

/-- Valve stage (R69). -/
inductive Stage where
  | closed | low | full
  deriving DecidableEq, Repr

/-- A segment's claim on an injector (R133). -/
structure Claim where
  injector : InjId
  /-- component index 1..3 -/
  index : Nat
  component : Component
  pacedMl : Nat
  doseFault : Bool
  deriving DecidableEq, Repr

/-- The values of one metering period (R98). -/
structure PeriodRecord where
  nA : Nat
  nB : Nat
  iv : Nat
  q : Nat
  mf : Int
  temp : Option Int
  vcf : Int
  gv : Nat
  nv : Nat
  deriving DecidableEq, Repr

/-- A segment record (R55). The valve stage is a function of phase and cap (R69), not a field. -/
structure Segment where
  orderNo : Nat
  compartment : Nat
  bay : BayId
  origin : Origin
  phase : Phase
  counted : Bool
  presetMl : Nat
  trimmed : Bool
  reservation : Nat
  entry : Option EntryId
  calSerial : Option Nat
  claims : List Claim
  wantTimer : Option Nat
  injectorTimer : Option Nat
  periodTimer : Option Nat
  pulseTotalA : Nat
  pulseTotalB : Nat
  indicated : Nat
  gross : Nat
  net : Nat
  residueI : Nat
  residueG : Nat
  residueN : Nat
  lastTemp : Option Int
  holdAge : Nat
  tempHeld : Bool
  uncompensated : Bool
  sumTGV : Int
  sumGVT : Nat
  fidelityCount : Nat
  zeroRun : Nat
  closeRecorded : Bool
  closeCounter : Nat
  postClose : Nat
  cap : Bool
  mixedCal : Bool
  /-- bit i is component i + 1 -/
  undosed : BitVec 3
  /-- bit i is component i + 1 -/
  doseFault : BitVec 3
  overrun : Bool
  endCause : Option EndCause
  period : Option PeriodRecord
  deriving DecidableEq, Repr

/-- What an arm keeps of its most recent segment end (R51). -/
structure LastEnd where
  orderNo : Nat
  compartment : Nat
  origin : Origin
  cause : EndCause
  counted : Bool
  gross : Nat
  net : Nat
  deriving DecidableEq, Repr

/-- State of an arm with what it holds in that state (R51, R53). -/
inductive ArmStatus where
  | idle
  | segment (seg : Segment)
  | resumeWait (orderNo : Nat) (compartment : Nat)
  | fault
  deriving DecidableEq, Repr

/-- An arm record (R51), with its period counters (R81) and sample store (R82). -/
structure Arm where
  reach : List BayId
  products : List Nat
  status : ArmStatus
  claim : Option BayId
  lastEnd : Option LastEnd
  counterA : Nat
  counterB : Nat
  sample : Option Int
  freshness : Option Nat
  deriving DecidableEq, Repr

/-! ## Profile cache (R103) -/

/-- The host's ranking of a profile (R103). -/
inductive Priority where
  | low | medium | high
  deriving DecidableEq, Repr

/-- A point of a meter factor curve (R103). -/
structure CurvePoint where
  q : Nat
  mf : Nat
  deriving DecidableEq, Repr

/-- A valid profile entry (R103). -/
structure Entry where
  meter : Nat
  base : Nat
  span : Nat
  priority : Priority
  kn : Nat
  curve : List CurvePoint
  alpha : Nat
  lowStart : Nat
  slowStop : Nat
  closeAdvance : Nat
  overrunTol : Nat
  calSerial : Nat
  pinCount : Nat
  dropping : Bool
  deriving DecidableEq, Repr

/-- An outstanding want (R109). -/
structure Want where
  arm : ArmId
  meter : Nat
  product : Nat
  minute : Nat
  deriving DecidableEq, Repr

/-- The profile cache: 12 slots, the recency list (front first) and the want list (oldest first) (R103, R105, R109). -/
structure Cache where
  entries : Vector (Option Entry) 12
  recency : List EntryId
  wants : List Want
  deriving DecidableEq, Repr

/-! ## Dosing unit (R125, R131) -/

/-- State of an injector (R125). -/
inductive InjectorState where
  | idle | claimed | releasing | fault | outOfService
  deriving DecidableEq, Repr

/-- Who holds an injector: the arm and its component index (R125). -/
structure Claimant where
  arm : ArmId
  index : Nat
  deriving DecidableEq, Repr

/-- An injector record (R125). -/
structure Injector where
  cls : Nat
  reach : List ArmId
  shotUl : Nat
  state : InjectorState
  claimant : Option Claimant
  accNl : Nat
  firing : Bool
  confirmTimer : Option Nat
  queued : Bool
  confirmed : Nat
  misses : Nat
  strays : Nat
  deriving DecidableEq, Repr

/-- A waiter of a class wait queue (R130). -/
structure Waiter where
  arm : ArmId
  index : Nat
  minute : Nat
  deriving DecidableEq, Repr

/-- The dosing unit: recipes, injectors and the queues of classes 1..15 (queue c stands at place c - 1) (R121, R125, R131). -/
structure Dosing where
  recipes : List Recipe
  injectors : Vector Injector 16
  queues : Vector (List Waiter) 15
  deriving DecidableEq, Repr

/-! ## Note store (R147) -/

/-- Authorization mode (R173). -/
inductive Mode where
  | standalone | referred
  deriving DecidableEq, Repr

/-- An additive entry of a note line (R149). -/
structure Additive where
  cls : Nat
  injector : Option InjId
  requiredUl : Nat
  dosedUl : Nat
  undosed : Bool
  underdosed : Bool
  doseFault : Bool
  deriving DecidableEq, Repr

/-- A line of a delivery note (R149). The flags have the bits 0..13 of R199. Of a profile's tag (R120) it holds what R149
lists, the arm (whose number is the meter's) and the calibration serial, and no base or span: DEDUCED (log 26). -/
structure NoteLine where
  compartment : Nat
  product : Nat
  basis : Basis
  presetL : Nat
  arm : ArmId
  segments : Nat
  indicated : Nat
  gross : Nat
  net : Nat
  sumTGV : Int
  sumGVT : Nat
  calSerial : Option Nat
  flags : BitVec 14
  finalState : Option LineState
  additives : List Additive
  deriving DecidableEq, Repr

/-- What the opening writes into a note (R148, R151). -/
structure Opening where
  serial : Nat
  carrier : Nat
  day : Nat
  minute : Nat
  sealCount : Nat
  mode : Mode
  deriving DecidableEq, Repr

/-- Day and minute of a sealing (R148). -/
structure Stamp where
  day : Nat
  minute : Nat
  deriving DecidableEq, Repr

/-- A note record (R148): the opening is absent while RESERVED, the stamp until SEALED. -/
structure Note where
  orderNo : Nat
  card : Nat
  bay : BayId
  opening : Option Opening
  lines : List NoteLine
  closedByRestart : Bool
  sealedAt : Option Stamp
  deriving DecidableEq, Repr

/-- A note slot with what it holds (R147); `opened` is OPEN. -/
inductive NoteSlot where
  | free
  | reserved (note : Note)
  | opened (note : Note)
  | sealed (note : Note)
  deriving DecidableEq, Repr

/-- The note store; a next serial of none is spent (R147). -/
structure NoteStore where
  slots : Vector NoteSlot 48
  sealedList : List SlotId
  nextSerial : Option Nat
  deriving DecidableEq, Repr

/-! ## Clock and attention (R163, R167) -/

/-- The terminal clock (R163). -/
structure Clock where
  day : Nat
  minute : Nat
  minuteTimer : Nat
  deriving DecidableEq, Repr

/-- Edge selection (R168). -/
inductive Edge where
  | onset | clearance | both
  deriving DecidableEq, Repr

/-- The six edge selections (R168). -/
structure Edges where
  bay : Edge
  arm : Edge
  injector : Edge
  want : Edge
  referral : Edge
  cal : Edge
  deriving DecidableEq, Repr

/-- The occurrence record of an arm's mark (R169); bit b of the refused bays is bay b. -/
structure Occurrences where
  ended : Bool
  busy : Bool
  released : Bool
  refusedBays : BitVec 8
  deriving DecidableEq, Repr

/-- Change marks, occurrence records and edge selections (R167, R168, R169). Levels are read from the owning records. -/
structure Attention where
  bayMarks : Vector Bool 8
  armMarks : Vector Bool 24
  injectorMarks : Vector Bool 16
  slotMarks : Vector Bool 48
  wantMark : Bool
  referralMark : Bool
  calMark : Bool
  occurrences : Vector Occurrences 24
  edges : Edges
  deriving DecidableEq, Repr

/-! ## Settings (R173, R179, R181) -/

/-- What made the controller run (R181). -/
inductive StartCause where
  | powerOn | restartRequest | restartInput
  deriving DecidableEq, Repr

/-- Mode, strap level, CAL input, sealed settings and start record. -/
structure Settings where
  mode : Mode
  strap : Bool
  cal : Bool
  tref : Nat
  fidelityLimit : Nat
  sealCount : Nat
  startCause : StartCause
  restartCount : Nat
  deriving DecidableEq, Repr

/-! ## Rack link (R186, R188, R191, R193) -/

/-- The receiver; in COLLECT, the length byte and the bytes stored since (R186). -/
inductive Receiver where
  | hunt
  | length
  | collect (len : Byte) (got : List Byte)
  deriving DecidableEq, Repr

/-- A frame: a request (R185), or a response whose body begins with its status (R190). -/
structure Frame where
  kind : Byte
  tag : Byte
  body : List Byte
  deriving DecidableEq, Repr

/-- The rack link controller. -/
structure Link where
  receiver : Receiver
  gapTimer : Option Nat
  inbound : List Frame
  outbound : List Frame
  lengthErrors : Nat
  gapErrors : Nat
  lineErrors : Nat
  checkErrors : Nat
  busyCount : Nat
  dropCount : Nat
  deriving DecidableEq, Repr

/-! ## The whole -/

/-- What the part drives outward: a prompt frame, a stroke command, the bytes of a response frame. -/
inductive Output where
  | prompt (bay : BayId) (prompt : Prompt)
  | stroke (injector : InjId)
  | response (bytes : List Byte)
  deriving DecidableEq, Repr

/-- The state of the part. `outputs` and `pending` are the model's own fields (log 1, log 6). -/
structure State where
  permits : List Permit
  orders : List Order
  referrals : List Referral
  bays : Vector Bay 8
  arms : Vector Arm 24
  cache : Cache
  dosing : Dosing
  notes : NoteStore
  clock : Clock
  att : Attention
  settings : Settings
  link : Link
  outputs : List Output
  pending : List Instr
  deriving DecidableEq, Repr

/-- Reasons a step stops with a fault. The manual describes no event that stops the part (INVENTORY.md, Faults):
there is none, and no meaning faults. -/
inductive Fault where
  deriving DecidableEq, Repr

/-- Reasons a step is refused. -/
inductive Refusal where
  /-- Raised by exec's arm of a command that has no meaning yet (no arm is one now). Safe: the machine stops. -/
  | notModelled (mnemonic : String)
  deriving DecidableEq, Repr

/-! ## Power-on values -/

/-- A bay after power-on, but for its input levels (R49). -/
def Bay.powerOn (inputs : Permissives) : Bay where
  state := .closed
  card := none
  boundOrder := none
  inputs := inputs
  holdFlags := 0
  holdWindow := none
  referralTimer := none
  cardIdleTimer := none
  closePending := false
  display := none

/-- An arm after power-on: its reach is its own bay, floor(arm / 3) (R79, R102). -/
def Arm.powerOn (a : ArmId) : Arm where
  reach := [⟨a.val / 3, by omega⟩]
  products := []
  status := .idle
  claim := none
  lastEnd := none
  counterA := 0
  counterB := 0
  sample := none
  freshness := none

/-- An injector after power-on (R145). -/
def Injector.powerOn : Injector where
  cls := 1
  reach := []
  shotUl := 1000
  state := .outOfService
  claimant := none
  accNl := 0
  firing := false
  confirmTimer := none
  queued := false
  confirmed := 0
  misses := 0
  strays := 0

/-- An occurrence record that holds nothing (R169). -/
def Occurrences.empty : Occurrences where
  ended := false
  busy := false
  released := false
  refusedBays := 0

/-- The attention unit after power-on (R172). -/
def Attention.powerOn : Attention where
  bayMarks := Vector.replicate 8 false
  armMarks := Vector.replicate 24 false
  injectorMarks := Vector.replicate 16 false
  slotMarks := Vector.replicate 48 false
  wantMark := false
  referralMark := false
  calMark := false
  occurrences := Vector.replicate 24 Occurrences.empty
  edges := ⟨.both, .both, .both, .both, .both, .both⟩

/-- The rack link after power-on (R192). -/
def Link.powerOn : Link where
  receiver := .hunt
  gapTimer := none
  inbound := []
  outbound := []
  lengthErrors := 0
  gapErrors := 0
  lineErrors := 0
  checkErrors := 0
  busyCount := 0
  dropCount := 0

/-- The state that the power-on reset event leaves for given pin levels (R184 and the rules it cites). -/
def State.powerOn (pins : PowerOnPins) : State where
  permits := []
  orders := []
  referrals := []
  bays := pins.inputs.map Bay.powerOn
  arms := Vector.ofFn Arm.powerOn
  cache := ⟨Vector.replicate 12 none, [], []⟩
  dosing := ⟨[], Vector.replicate 16 Injector.powerOn, Vector.replicate 15 []⟩
  notes := ⟨Vector.replicate 48 .free, [], some 1⟩
  clock := ⟨0, 0, Config.minuteMs⟩
  att := Attention.powerOn
  settings :=
    { mode := if pins.strap then .referred else .standalone
      strap := pins.strap
      cal := pins.cal
      tref := 1500
      fidelityLimit := 50
      sealCount := 0
      startCause := .powerOn
      restartCount := 0 }
  link := Link.powerOn
  outputs := []
  pending := []

/-- The pin levels of the model's own reset. DESIGN CHOICE, unsafe (log 5): the manual samples the pins. -/
def resetPins : PowerOnPins where
  strap := false
  cal := false
  inputs := Vector.replicate 8 ⟨true, true, true, true⟩

/-- The machine right after reset: a power-on reset with the levels of `resetPins` (R184). -/
def State.reset : State := State.powerOn resetPins

end Sys2Proof.Machine
end

