-- ==== Sys2Proof/Machine/Operands.lean ====
section
/-! DEFINITION. Fields of frame bodies: reading and writing multi-byte fields, most significant byte first (R185),
the codes of enumerated values (R190, R194..R199), and the answers a request can be given (R190). -/

namespace Sys2Proof.Machine

/-! ## Reading a body -/

/-- Byte `i` of a body. -/
def u8 (b : List Byte) (i : Nat) : Nat := (b.getD i 0).toNat

/-- The 2-byte field at byte `i` (R185). -/
def u16 (b : List Byte) (i : Nat) : Nat := u8 b i * 256 + u8 b (i + 1)

/-- The 4-byte field at byte `i` (R185). -/
def u32 (b : List Byte) (i : Nat) : Nat := u16 b i * 65536 + u16 b (i + 2)

/-- `n` 1-byte fields from byte `i` on. -/
def u8s (b : List Byte) (i n : Nat) : List Nat := (List.range n).map fun k => u8 b (i + k)

/-- `n` 2-byte fields from byte `i` on. -/
def u16s (b : List Byte) (i n : Nat) : List Nat := (List.range n).map fun k => u16 b (i + 2 * k)

/-! ## Writing a body -/

/-- The low 8 bits of a number. -/
def b1 (n : Nat) : List Byte := [BitVec.ofNat 8 n]

/-- A 2-byte field (R185). -/
def b2 (n : Nat) : List Byte := b1 (n / 256) ++ b1 n

/-- A 4-byte field (R185). -/
def b4 (n : Nat) : List Byte := b2 (n / 65536) ++ b2 n

/-- An 8-byte field (R185). -/
def b8 (n : Nat) : List Byte := b4 (n / 4294967296) ++ b4 n

/-- A signed 2-byte field, two's complement (R185). -/
def i2 (n : Int) : List Byte := b2 (n % 65536).toNat

/-- A signed 8-byte field, two's complement (R185). -/
def i8 (n : Int) : List Byte := b8 (n % 18446744073709551616).toNat

/-- 0x01 for yes or set, 0x00 for no or clear (R195). -/
def flag1 (p : Bool) : List Byte := b1 p.toNat

/-- An optional field with its absent code. -/
def orCode (absent : Nat) (x : Option Nat) : Nat := x.getD absent

/-- A list padded to `n` items with a filler for the unused places. -/
def padTo (n : Nat) (filler : Nat) (xs : List Nat) : List Nat :=
  (List.range n).map fun k => xs.getD k filler

/-- Seconds left on a timer, rounded up; 0 when it is stopped. -/
def secondsLeft (t : Option Nat) : Nat := (t.getD 0 + 999) / 1000

/-! ## Answers -/

/-- Status codes (R190). -/
inductive Status where
  | ok | malformed | unknown | busy | notFound | full | inUse | wrongState | badValue | unsealed | late | pinned
  deriving DecidableEq, Repr

/-- The code of a status (R190). -/
def Status.code : Status → Nat
  | .ok => 0x00
  | .malformed => 0x01
  | .unknown => 0x02
  | .busy => 0x03
  | .notFound => 0x04
  | .full => 0x05
  | .inUse => 0x06
  | .wrongState => 0x07
  | .badValue => 0x08
  | .unsealed => 0x09
  | .late => 0x0A
  | .pinned => 0x0B

/-- What the owner of a record answers: a status and the bytes after it (R190). -/
structure Answer where
  status : Status
  rest : List Byte
  deriving DecidableEq, Repr

/-- OK with its reply body. -/
def Answer.ok (reply : List Byte) : Answer := ⟨.ok, reply⟩

/-- A refusal status, which is sent alone (R190). -/
def Answer.refuse (st : Status) : Answer := ⟨st, []⟩

/-- The code of a refusal reason (R190). -/
def Reason.code : Reason → Nat
  | .noPermit => 0x01
  | .suspended => 0x02
  | .locked => 0x03
  | .retiring => 0x04
  | .notYetValid => 0x05
  | .expired => 0x06
  | .cardInUse => 0x07
  | .notCarded => 0x08
  | .bayHold => 0x09
  | .wrongArm => 0x0A
  | .armBusy => 0x0B
  | .armFault => 0x0C
  | .noLine => 0x0D
  | .lineBusy => 0x0E
  | .lineDone => 0x0F
  | .permitStopped => 0x10
  | .notEndorsed => 0x11
  | .calibrating => 0x12
  | .notesFull => 0x13
  | .serialSpent => 0x14
  | .allowance => 0x15
  | .noOrder => 0x16
  | .denied => 0x17
  | .noAnswer => 0x18
  | .bayClosed => 0x19
  | .noSegment => 0x1A

/-- WRONG_STATE with its reason byte, 0x00 where the owning rule gives no reason (R190). -/
def Answer.wrongState (reason : Option Reason) : Answer :=
  ⟨.wrongState, b1 ((reason.map Reason.code).getD 0)⟩

/-- The body of a response: the status byte and what follows it (R190). -/
def Answer.bytes (a : Answer) : List Byte := b1 a.status.code ++ a.rest

/-- Result words, numbered from 0x00 in the order of R190. -/
inductive Word where
  | inserted | replaced | removed | retiring | inPlace | freeSlot | evicted | dropping
  deriving DecidableEq, Repr

/-- The byte of a result word (R190). -/
def Word.code : Word → Nat
  | .inserted => 0
  | .replaced => 1
  | .removed => 2
  | .retiring => 3
  | .inPlace => 4
  | .freeSlot => 5
  | .evicted => 6
  | .dropping => 7

/-! ## Codes of enumerated values -/

/-- R196. -/
def PermitState.code : PermitState → Nat
  | .active => 0
  | .suspended => 1
  | .locked => 2
  | .retiring => 3

/-- R197. -/
def OrderState.code : OrderState → Nat
  | .posted => 0
  | .bound => 1
  | .loading => 2

/-- R197. -/
def Basis.code : Basis → Nat
  | .gross => 0
  | .net => 1

/-- R197. -/
def LineState.code : LineState → Nat
  | .opened => 0
  | .active => 1
  | .part => 2
  | .filled => 3
  | .spent => 4

/-- In the order of R29 (R195). -/
def BayState.code : BayState → Nat
  | .closed => 0
  | .idle => 1
  | .authorizing => 2
  | .carded => 3
  | .loading => 4
  | .hold => 5
  | .tripped => 6
  | .ending => 7

/-- R195. -/
def ArmStatus.code : ArmStatus → Nat
  | .idle => 0
  | .segment _ => 1
  | .resumeWait _ _ => 2
  | .fault => 3

/-- R195. -/
def Origin.code : Origin → Nat
  | .panel => 0
  | .host => 1
  | .resume => 2

/-- In the order of R55 (R195). -/
def Phase.code : Phase → Nat
  | .awaitProfile => 0
  | .awaitInjector => 1
  | .lowStart => 2
  | .high => 3
  | .lowStop => 4
  | .closing => 5
  | .pausing => 6

/-- R195. -/
def Stage.code : Stage → Nat
  | .closed => 0
  | .low => 1
  | .full => 2

/-- In the order of the table of R75 (R195). -/
def EndCause.code : EndCause → Nat
  | .closed => 0x00
  | .stopped => 0x01
  | .hold => 0x02
  | .estop => 0x03
  | .overfill => 0x04
  | .noFlow => 0x05
  | .meterFault => 0x06
  | .tempFault => 0x07
  | .doseFault => 0x08
  | .calSeal => 0x09
  | .leak => 0x0A
  | .restart => 0x0B
  | .profileTimeout => 0x0C
  | .injectorTimeout => 0x0D
  | .noRecipe => 0x0E
  | .serialSpent => 0x0F

/-- R198. -/
def Priority.code : Priority → Nat
  | .low => 0
  | .medium => 1
  | .high => 2

/-- R195. -/
def InjectorState.code : InjectorState → Nat
  | .idle => 0
  | .claimed => 1
  | .releasing => 2
  | .fault => 3
  | .outOfService => 4

/-- R194. -/
def Mode.code : Mode → Nat
  | .standalone => 0
  | .referred => 1

/-- R195, R199. -/
def NoteSlot.code : NoteSlot → Nat
  | .free => 0
  | .reserved _ => 1
  | .opened _ => 2
  | .sealed _ => 3

/-- R195. -/
def StartCause.code : StartCause → Nat
  | .powerOn => 0
  | .restartRequest => 1
  | .restartInput => 2

/-! ## Units named by a byte of a request -/

/-- The bay a byte names, if there is one (R29). -/
def bayOf (n : Nat) : Option BayId := if h : n < 8 then some ⟨n, h⟩ else none

/-- The arm a byte names, if there is one (R52). -/
def armOf (n : Nat) : Option ArmId := if h : n < 24 then some ⟨n, h⟩ else none

/-- The injector a byte names, if there is one (R126). -/
def injectorOf (n : Nat) : Option InjId := if h : n < 16 then some ⟨n, h⟩ else none

/-- The note slot a byte names, if there is one (R157). -/
def slotOf (n : Nat) : Option SlotId := if h : n < 48 then some ⟨n, h⟩ else none

end Sys2Proof.Machine
end

