-- ==== Sys2Proof/Machine/Flags.lean ====
section
/-! DEFINITION. Flag words: the note line flags (R149, R199), the segment flags and the bit fields of the replies (R195). -/

namespace Sys2Proof.Machine

/-- Flags stored on a note line (R149), in the bit order of R199. -/
inductive LineFlag where
  | overrun | trimmed | tempHeld | uncompensated | mixedCal | estop | overfill | noFlow | meterFault | tempFault
  | doseFault | leak | calSeal | restart
  deriving DecidableEq, Repr

/-- Bit number of a line flag (R199). -/
def LineFlag.bit : LineFlag → Nat
  | .overrun => 0
  | .trimmed => 1
  | .tempHeld => 2
  | .uncompensated => 3
  | .mixedCal => 4
  | .estop => 5
  | .overfill => 6
  | .noFlow => 7
  | .meterFault => 8
  | .tempFault => 9
  | .doseFault => 10
  | .leak => 11
  | .calSeal => 12
  | .restart => 13

/-- `flags` with flag `f` set when `p` holds; a flag once set stays set (R149). -/
def setFlag (f : LineFlag) (p : Bool) (flags : BitVec 14) : BitVec 14 :=
  if p then flags ||| BitVec.twoPow 14 f.bit else flags

/-- Whether flag `f` is set. -/
def hasFlag (f : LineFlag) (flags : BitVec 14) : Bool := flags.getLsbD f.bit

/-- The line flag that an end cause sets, if it sets one (R153). -/
def EndCause.lineFlag : EndCause → Option LineFlag
  | .estop => some .estop
  | .overfill => some .overfill
  | .noFlow => some .noFlow
  | .meterFault => some .meterFault
  | .tempFault => some .tempFault
  | .doseFault => some .doseFault
  | .leak => some .leak
  | .calSeal => some .calSeal
  | .restart => some .restart
  | .closed => none
  | .stopped => none
  | .hold => none
  | .profileTimeout => none
  | .injectorTimeout => none
  | .noRecipe => none
  | .serialSpent => none

/-- SHORT: the final state is PART or SPENT (R156). -/
def NoteLine.short (l : NoteLine) : Bool :=
  match l.finalState with
  | some .part => true
  | some .spent => true
  | _ => false

/-- The 2-byte flag word of a note line: the stored flags, SHORT, and whether an average temperature is present (R199). -/
def NoteLine.flagWord (l : NoteLine) : Nat :=
  l.flags.toNat + l.short.toNat * 16384 + (decide (l.sumGVT ≠ 0)).toNat * 32768

/-- The flag byte of an additive entry (R199). -/
def Additive.flagByte (e : Additive) : Nat :=
  e.undosed.toNat + e.underdosed.toNat * 2 + e.doseFault.toNat * 4

/-- The segment flags of ARM GET (R195). -/
def Segment.flagWord (g : Segment) : Nat :=
  g.mixedCal.toNat + g.tempHeld.toNat * 2 + g.uncompensated.toNat * 4 + g.trimmed.toNat * 8
    + g.undosed.toNat * 16 + g.doseFault.toNat * 128

/-- The permissive inputs byte: a bit is set when its input is unhealthy (R195). -/
def unhealthyByte (p : Permissives) : Nat :=
  (!p.ground).toNat + (!p.vapour).toNat * 2 + (!p.overfill).toNat * 4 + (!p.estop).toNat * 8

/-- The timers byte of BAY GET (R195). -/
def Bay.timerByte (b : Bay) : Nat :=
  b.referralTimer.isSome.toNat + b.cardIdleTimer.isSome.toNat * 2 + b.closePending.toNat * 4

/-- The occurrence record byte of ATTENTION READ (R195). -/
def Occurrences.flagByte (o : Occurrences) : Nat :=
  o.ended.toNat + o.busy.toNat * 2 + o.released.toNat * 4

/-- The slots byte of INJECTOR GET (R195). -/
def Injector.slotByte (j : Injector) : Nat :=
  j.firing.toNat + j.queued.toNat * 2 + j.confirmTimer.isSome.toNat * 4

end Sys2Proof.Machine
end

