-- ==== Sys2Proof/Machine/Ops.lean ====
section
/-! DEFINITION. The named operations every family uses: reading and updating one record of State, attention marks and
levels (R167..R170), changes of bay, arm and injector state with their attention changes, prompts, and rounding. -/

namespace Sys2Proof.Machine

/-! ## Rounding (spec/00, "Rounding and arithmetic words") -/

/-- Division rounded up. -/
def ceilDiv (n d : Nat) : Nat := (n + d - 1) / d

/-- Nearest integer to n / d, halves away from zero, for either sign of n. -/
def nearestDiv (n : Int) (d : Nat) : Int :=
  if 0 ≤ n then ((2 * n.toNat + d) / (2 * d) : Nat) else -(((2 * (-n).toNat + d) / (2 * d) : Nat) : Int)

/-- Addition that stays at `top` (R92, R193). -/
def satAdd (top n k : Nat) : Nat := min top (n + k)

/-- Millilitres shown in whole litres, half-litres up (R100, R16). -/
def litres (ml : Nat) : Nat := (ml + 500) / 1000

/-! ## Every unit, in ascending number -/

def allBays : List BayId := List.finRange 8
def allArms : List ArmId := List.finRange 24
def allInjectors : List InjId := List.finRange 16
def allSlots : List SlotId := List.finRange 48
def allEntries : List EntryId := List.finRange 12

/-! ## Reading and updating one record -/

def State.bay (s : State) (b : BayId) : Bay := s.bays[b]
def State.arm (s : State) (a : ArmId) : Arm := s.arms[a]
def State.injector (s : State) (j : InjId) : Injector := s.dosing.injectors[j]
def State.slot (s : State) (k : SlotId) : NoteSlot := s.notes.slots[k]
def State.entry (s : State) (e : EntryId) : Option Entry := s.cache.entries[e]

def State.modBay (b : BayId) (f : Bay → Bay) (s : State) : State :=
  { s with bays := s.bays.set b.val (f s.bays[b]) b.isLt }

def State.modArm (a : ArmId) (f : Arm → Arm) (s : State) : State :=
  { s with arms := s.arms.set a.val (f s.arms[a]) a.isLt }

def State.modInjector (j : InjId) (f : Injector → Injector) (s : State) : State :=
  { s with dosing := { s.dosing with injectors := s.dosing.injectors.set j.val (f s.dosing.injectors[j]) j.isLt } }

def State.setSlot (k : SlotId) (x : NoteSlot) (s : State) : State :=
  { s with notes := { s.notes with slots := s.notes.slots.set k.val x k.isLt } }

def State.setEntry (e : EntryId) (x : Option Entry) (s : State) : State :=
  { s with cache := { s.cache with entries := s.cache.entries.set e.val x e.isLt } }

def State.modEntry (e : EntryId) (f : Entry → Entry) (s : State) : State :=
  s.setEntry e ((s.entry e).map f)

/-- The segment of an arm, present in SEGMENT (R51). -/
def Arm.seg? (a : Arm) : Option Segment :=
  match a.status with
  | .segment g => some g
  | .idle => none
  | .resumeWait _ _ => none
  | .fault => none

def State.seg? (s : State) (a : ArmId) : Option Segment := (s.arm a).seg?

/-- Update an arm's segment, if it has one. -/
def Arm.modSeg (f : Segment → Segment) (a : Arm) : Arm :=
  match a.status with
  | .segment g => { a with status := .segment (f g) }
  | .idle => a
  | .resumeWait _ _ => a
  | .fault => a

def State.modSeg (a : ArmId) (f : Segment → Segment) (s : State) : State := s.modArm a (Arm.modSeg f)

def State.permit? (s : State) (card : Nat) : Option Permit := s.permits.find? (·.card == card)

/-- Update the permit of a card, if there is one. -/
def State.modPermit (card : Nat) (f : Permit → Permit) (s : State) : State :=
  { s with permits := s.permits.map fun p => if p.card == card then f p else p }

def State.order? (s : State) (orderNo : Nat) : Option Order := s.orders.find? (·.orderNo == orderNo)

/-- Update an order, if it is in the table. -/
def State.modOrder (orderNo : Nat) (f : Order → Order) (s : State) : State :=
  { s with orders := s.orders.map fun o => if o.orderNo == orderNo then f o else o }

def Order.line? (o : Order) (compartment : Nat) : Option Line := o.lines.find? (·.compartment == compartment)

/-- Update the line of a compartment, if the order has one. -/
def Order.modLine (compartment : Nat) (f : Line → Line) (o : Order) : Order :=
  { o with lines := o.lines.map fun l => if l.compartment == compartment then f l else l }

def State.line? (s : State) (orderNo compartment : Nat) : Option Line :=
  (s.order? orderNo).bind (·.line? compartment)

def State.modLine (orderNo compartment : Nat) (f : Line → Line) (s : State) : State :=
  s.modOrder orderNo (Order.modLine compartment f)

/-- The note record a slot holds (R147). -/
def NoteSlot.note? : NoteSlot → Option Note
  | .free => none
  | .reserved n => some n
  | .opened n => some n
  | .sealed n => some n

/-- The order line that a segment fills. -/
def State.segLine? (s : State) (g : Segment) : Option Line := s.line? g.orderNo g.compartment

/-- The profile entry that a segment pins. -/
def State.segEntry? (s : State) (g : Segment) : Option Entry := g.entry.bind s.entry

/-- Delivered volume on a basis (R92). -/
def Segment.delivered (g : Segment) : Basis → Nat
  | .gross => g.gross
  | .net => g.net

/-! ## Phases and the valve (R69) -/

/-- AWAIT_PROFILE or AWAIT_INJECTOR. -/
def Phase.acquiring : Phase → Bool
  | .awaitProfile => true
  | .awaitInjector => true
  | _ => false

/-- LOW_START, HIGH or LOW_STOP. -/
def Phase.flowing : Phase → Bool
  | .lowStart => true
  | .high => true
  | .lowStop => true
  | _ => false

/-- Valve stage of a phase under a cap (R69). -/
def Phase.stage : Phase → Bool → Stage
  | .lowStart, _ => .low
  | .lowStop, _ => .low
  | .high, false => .full
  | .high, true => .low
  | .awaitProfile, _ => .closed
  | .awaitInjector, _ => .closed
  | .closing, _ => .closed
  | .pausing, _ => .closed

/-- Valve stage of a segment (R69). -/
def Segment.stage (g : Segment) : Stage := g.phase.stage g.cap

/-- Valve stage of an arm; an arm without a segment drives both outputs off (R69). -/
def Arm.stage (a : Arm) : Stage := (a.seg?.map Segment.stage).getD .closed

/-- Stage-one valve output: on at LOW and FULL (R69). -/
def Arm.stageOneOutput (a : Arm) : Bool := a.stage != .closed

/-- Stage-two valve output: on at FULL (R69). -/
def Arm.stageTwoOutput (a : Arm) : Bool := a.stage == .full

/-! ## Attention (R167..R170) -/

/-- The attention sources (R167). -/
inductive Source where
  | bay (b : BayId)
  | arm (a : ArmId)
  | injector (j : InjId)
  | slot (k : SlotId)
  | want
  | referral
  | cal
  deriving DecidableEq, Repr

/-- Whether a source's change mark is set. -/
def Attention.marked (t : Attention) : Source → Bool
  | .bay b => t.bayMarks[b]
  | .arm a => t.armMarks[a]
  | .injector j => t.injectorMarks[j]
  | .slot k => t.slotMarks[k]
  | .want => t.wantMark
  | .referral => t.referralMark
  | .cal => t.calMark

/-- Set or clear a source's change mark. -/
def Attention.put (t : Attention) (src : Source) (v : Bool) : Attention :=
  match src with
  | .bay b => { t with bayMarks := t.bayMarks.set b.val v b.isLt }
  | .arm a => { t with armMarks := t.armMarks.set a.val v a.isLt }
  | .injector j => { t with injectorMarks := t.injectorMarks.set j.val v j.isLt }
  | .slot k => { t with slotMarks := t.slotMarks.set k.val v k.isLt }
  | .want => { t with wantMark := v }
  | .referral => { t with referralMark := v }
  | .cal => { t with calMark := v }

/-- Set a source's change mark (R168). -/
def State.mark (src : Source) (s : State) : State := { s with att := s.att.put src true }

/-- The 99 sources in the order of R171. -/
def allSources : List Source :=
  allBays.map .bay ++ allArms.map .arm ++ allInjectors.map .injector ++ allSlots.map .slot ++ [.want, .referral, .cal]

/-- The attention output line: asserted while a mark is set (R170). -/
def State.attentionLine (s : State) : Bool := allSources.any s.att.marked

/-- Whether an edge selection asks for an onset (R168). -/
def Edge.asksOnset : Edge → Bool
  | .onset => true
  | .both => true
  | .clearance => false

/-- Whether an edge selection asks for a clearance (R168). -/
def Edge.asksClearance : Edge → Bool
  | .clearance => true
  | .both => true
  | .onset => false

/-- Mark a source for a change of its level under the selection of its kind; no change, no mark (R168). -/
def State.levelChange (src : Source) (sel : Edge) (old new : Bool) (s : State) : State :=
  if (!old && new && sel.asksOnset) || (old && !new && sel.asksClearance) then s.mark src else s

/-- The bay source's level: HOLD or TRIPPED (R167). -/
def BayState.level : BayState → Bool
  | .hold => true
  | .tripped => true
  | _ => false

/-- The arm source's level: FAULT (R167). -/
def ArmStatus.level : ArmStatus → Bool
  | .fault => true
  | .idle => false
  | .segment _ => false
  | .resumeWait _ _ => false

/-- The injector source's level: FAULT (R167). -/
def InjectorState.level : InjectorState → Bool
  | .fault => true
  | _ => false

/-- The note slot source's level: SEALED (R167). -/
def NoteSlot.level : NoteSlot → Bool
  | .sealed _ => true
  | .free => false
  | .reserved _ => false
  | .opened _ => false

/-- A source's level, read from the owning record (R167). -/
def State.level (s : State) : Source → Bool
  | .bay b => (s.bay b).state.level
  | .arm a => (s.arm a).status.level
  | .injector j => (s.injector j).state.level
  | .slot k => (s.slot k).level
  | .want => !s.cache.wants.isEmpty
  | .referral => !s.referrals.isEmpty
  | .cal => s.settings.cal

/-- An occurrence of an arm's source: the mark is set and the record gains its entry (R168, R169). -/
def State.armOccurrence (a : ArmId) (f : Occurrences → Occurrences) (s : State) : State :=
  let t := s.att.put (.arm a) true
  { s with att := { t with occurrences := t.occurrences.set a.val (f t.occurrences[a]) a.isLt } }

/-- ENDED: a segment end (R169). -/
def State.occurEnded (a : ArmId) (s : State) : State := s.armOccurrence a fun o => { o with ended := true }

/-- RELEASED: a clearing of the claim (R169). -/
def State.occurReleased (a : ArmId) (s : State) : State := s.armOccurrence a fun o => { o with released := true }

/-- BUSY: an ARM_BUSY refusal of a bay (R57, R169). -/
def State.occurBusy (a : ArmId) (b : BayId) (s : State) : State :=
  s.armOccurrence a fun o => { o with busy := true, refusedBays := o.refusedBays ||| BitVec.twoPow 8 b.val }

/-! ## Changes of state that the attention unit hears of -/

/-- A change of bay state: an onset, a clearance, or an occurrence of the bay's source (R167, R168). -/
def State.setBayState (b : BayId) (st : BayState) (s : State) : State :=
  let old := (s.bay b).state
  let s' := s.modBay b fun x => { x with state := st }
  if old = st then s'
  else if old.level = st.level then s'.mark (.bay b)
  else s'.levelChange (.bay b) s.att.edges.bay old.level st.level

/-- A change of injector state; into or out of FAULT it is a change of the source (R125, R168). -/
def State.setInjectorState (j : InjId) (st : InjectorState) (s : State) : State :=
  (s.modInjector j fun x => { x with state := st }).levelChange (.injector j) s.att.edges.injector
    (s.injector j).state.level st.level

/-- A change of arm state; into or out of FAULT it is a change of the source's level (R168). -/
def State.setArmStatus (a : ArmId) (st : ArmStatus) (s : State) : State :=
  (s.modArm a fun x => { x with status := st }).levelChange (.arm a) s.att.edges.arm (s.arm a).status.level st.level

/-- Clear an arm's claim, a RELEASED occurrence (R54, R169). -/
def State.clearClaim (a : ArmId) (s : State) : State :=
  (s.modArm a fun x => { x with claim := none }).occurReleased a

/-- Release an arm to IDLE with its claim cleared (R54, R76). -/
def State.releaseArm (a : ArmId) (s : State) : State := (s.setArmStatus a .idle).clearClaim a

/-- Replace the want list; its emptying is a clearance, its first want an onset (R109). -/
def State.setWants (ws : List Want) (s : State) : State :=
  { s with cache := { s.cache with wants := ws } }.levelChange .want s.att.edges.want (!s.cache.wants.isEmpty) (!ws.isEmpty)

/-- Replace the referral list; onset and clearance as for wants (R34, R167). -/
def State.setReferrals (rs : List Referral) (s : State) : State :=
  { s with referrals := rs }.levelChange .referral s.att.edges.referral (!s.referrals.isEmpty) (!rs.isEmpty)

/-- The CAL input takes a level: onset or clearance of its source (R175). -/
def State.setCal (v : Bool) (s : State) : State :=
  { s with settings := { s.settings with cal := v } }.levelChange .cal s.att.edges.cal s.settings.cal v

/-! ## Outputs -/

/-- Append to what the part has driven outward. -/
def State.emit (o : Output) (s : State) : State := { s with outputs := s.outputs ++ [o] }

/-- Send a prompt on a bay's panel line; it replaces the one on the display (R48). -/
def State.prompt (b : BayId) (p : Prompt) (s : State) : State :=
  (s.modBay b fun x => { x with display := some p }).emit (.prompt b p)

/-! ## What a bay has -/

/-- All four inputs healthy. -/
def allHealthy (p : Permissives) : Bool := p.ground && p.vapour && p.overfill && p.estop

/-- A bay is permitted when all four inputs are healthy and no hold flag is set (R43). -/
def Bay.permitted (b : Bay) : Bool := allHealthy b.inputs && b.holdFlags == 0

/-- The arms with a segment of the bay's order, in ascending number. -/
def State.segArms (s : State) (b : BayId) : List ArmId :=
  allArms.filter fun a => (s.seg? a).any fun g => g.bay == b

/-- A segment of the bay's order exists. Arms in RESUME_WAIT do not count (R41). -/
def State.bayBusy (s : State) (b : BayId) : Bool := !(s.segArms b).isEmpty

/-- RESUME_WAIT for a bay: the arm waits and the bay holds its claim (R54). -/
def Arm.waitsFor (x : Arm) (b : BayId) : Bool :=
  match x.status with
  | .resumeWait _ _ => x.claim == some b
  | .idle => false
  | .segment _ => false
  | .fault => false

/-- The arms in RESUME_WAIT for a bay, in ascending number. -/
def State.waitArms (s : State) (b : BayId) : List ArmId := allArms.filter fun a => (s.arm a).waitsFor b

/-- Release every arm in RESUME_WAIT for a bay (R28, R31, R42, R46, R47). -/
def State.releaseWaiting (b : BayId) (s : State) : State :=
  (s.waitArms b).foldl (fun t a => t.releaseArm a) s

end Sys2Proof.Machine
end

