-- ==== Sys2Proof/Machine/Permits.lean ====
section
/-! DEFINITION. The permit table: the permit requests (R3..R9), the card-in check, bind and unbind (R10, R11), the start
check (R12), the reservation and its trim (R14, R15), the charge with its strike (R16, R18) and the rollover (R17). -/

namespace Sys2Proof.Machine

/-! ## Request bodies -/

/-- The fields of a PERMIT PUT body (R196), before validation. -/
structure PermitBody where
  card : Nat
  stateCode : Nat
  carrier : Nat
  endorsements : Nat
  validFrom : Nat
  validUntil : Nat
  allowance : Nat
  deriving DecidableEq, Repr

/-- Bytes 0 to 16 of the permit layout (R196). -/
def readPermitBody (b : List Byte) : PermitBody where
  card := u32 b 0
  stateCode := u8 b 4
  carrier := u16 b 5
  endorsements := u16 b 7
  validFrom := u16 b 9
  validUntil := u16 b 11
  allowance := u32 b 13

/-- The absent code of an allowance (R196). -/
def absentAllowance : Nat := 0xFFFFFFFF

/-- The validation of R3 with the codes of R196. -/
def PermitBody.valid (p : PermitBody) : Bool :=
  cardIdValid p.card && p.stateCode ≤ 1 && p.endorsements < 1024 && p.validFrom ≤ p.validUntil
    && (p.allowance == absentAllowance || (1 ≤ p.allowance && p.allowance ≤ 999999))

/-- The state a body carries (R196). -/
def PermitBody.state (p : PermitBody) : PermitState := if p.stateCode = 0 then .active else .suspended

/-- The allowance a body carries, present or absent (R196). -/
def PermitBody.allowance? (p : PermitBody) : Option Nat := if p.allowance = absentAllowance then none else some p.allowance

/-- The record that a body inserts (R4). -/
def PermitBody.fresh (p : PermitBody) : Permit where
  card := p.card
  state := p.state
  carrier := p.carrier
  endorsements := BitVec.ofNat 10 p.endorsements
  validFrom := p.validFrom
  validUntil := p.validUntil
  allowance := p.allowance?
  used := 0
  reserved := 0
  strikes := 0
  boundOrder := none

/-- A record replaced by a body: the host's fields are the body's, the controller's are kept; LOCKED stays LOCKED (R4). -/
def PermitBody.replace (p : PermitBody) (old : Permit) : Permit :=
  { old with
    state := if old.state = .locked then .locked else p.state
    carrier := p.carrier
    endorsements := BitVec.ofNat 10 p.endorsements
    validFrom := p.validFrom
    validUntil := p.validUntil
    allowance := p.allowance? }

/-- A record in its place of the ascending card-id order (R1; log 13). -/
def insertPermit (p : Permit) : List Permit → List Permit
  | [] => [p]
  | q :: qs => if p.card < q.card then p :: q :: qs else q :: insertPermit p qs

/-- The permit record as it is returned, bytes 0 to 29 (R196). -/
def Permit.bytes (p : Permit) : List Byte :=
  b4 p.card ++ b1 p.state.code ++ b2 p.carrier ++ b2 p.endorsements.toNat ++ b2 p.validFrom ++ b2 p.validUntil
    ++ b4 (orCode absentAllowance p.allowance) ++ b4 p.used ++ b4 p.reserved ++ b1 p.strikes ++ b4 (orCode 0 p.boundOrder)

/-! ## Requests -/

/-- PERMIT PUT of a valid body (R4). -/
def putPermit (p : PermitBody) (s : State) : State × Answer :=
  match s.permit? p.card with
  | none =>
    if Config.permitCapacity ≤ s.permits.length then (s, .refuse .full)
    else ({ s with permits := insertPermit p.fresh s.permits }, .ok (b1 Word.inserted.code))
  | some old =>
    if old.state = .retiring then (s, .wrongState none)
    else (s.modPermit p.card p.replace, .ok (b1 Word.replaced.code))

/-- PERMIT PUT (R3, R4). -/
def permitPut (b : List Byte) (s : State) : State × Answer :=
  if b.length ≠ 17 then (s, .refuse .malformed)
  else if !(readPermitBody b).valid then (s, .refuse .badValue)
  else putPermit (readPermitBody b) s

/-- A request that names a card: its shape, the validation of the card id, and NOT_FOUND (R2 to R8). -/
def onPermit (b : List Byte) (s : State) (f : Permit → State × Answer) : State × Answer :=
  if b.length ≠ 4 then (s, .refuse .malformed)
  else if !cardIdValid (u32 b 0) then (s, .refuse .badValue)
  else match s.permit? (u32 b 0) with
    | none => (s, .refuse .notFound)
    | some p => f p

/-- PERMIT SUSPEND (R5). -/
def permitSuspend (b : List Byte) (s : State) : State × Answer :=
  onPermit b s fun p =>
    match p.state with
    | .active => (s.modPermit p.card fun q => { q with state := .suspended }, .ok [])
    | .suspended => (s, .ok [])
    | .locked => (s, .wrongState none)
    | .retiring => (s, .wrongState none)

/-- PERMIT RESUME (R5). -/
def permitResume (b : List Byte) (s : State) : State × Answer :=
  onPermit b s fun p =>
    match p.state with
    | .active => (s, .ok [])
    | .suspended => (s.modPermit p.card fun q => { q with state := .active }, .ok [])
    | .locked => (s, .wrongState none)
    | .retiring => (s, .wrongState none)

/-- PERMIT UNLOCK (R6). -/
def permitUnlock (b : List Byte) (s : State) : State × Answer :=
  onPermit b s fun p =>
    match p.state with
    | .locked => (s.modPermit p.card fun q => { q with state := .active, strikes := 0 }, .ok [])
    | .active => (s.modPermit p.card fun q => { q with strikes := 0 }, .ok [])
    | .suspended => (s.modPermit p.card fun q => { q with strikes := 0 }, .ok [])
    | .retiring => (s, .wrongState none)

/-- Remove a card's record from the table (R1). -/
def State.removePermit (card : Nat) (s : State) : State :=
  { s with permits := s.permits.filter fun p => p.card != card }

/-- PERMIT RETIRE (R7). -/
def permitRetire (b : List Byte) (s : State) : State × Answer :=
  onPermit b s fun p =>
    if p.state = .retiring then (s, .ok (b1 Word.retiring.code))
    else if p.boundOrder = none then (s.removePermit p.card, .ok (b1 Word.removed.code))
    else (s.modPermit p.card fun q => { q with state := .retiring }, .ok (b1 Word.retiring.code))

/-- PERMIT GET (R8). -/
def permitGet (b : List Byte) (s : State) : State × Answer := onPermit b s fun p => (s, .ok p.bytes)

/-- WALK (R9): the record with the smallest card id at or above the key. -/
def walk (b : List Byte) (s : State) : State × Answer :=
  if b.length ≠ 4 then (s, .refuse .malformed)
  else match s.permits.find? fun p => u32 b 0 ≤ p.card with
    | none => (s, .refuse .notFound)
    | some p => (s, .ok p.bytes)

/-! ## Checks -/

/-- The reason of the first test that fails, if one does. -/
def firstFailure (tests : List (Bool × Reason)) : Option Reason := (tests.find? fun t => !t.1).map (·.2)

/-- The card-in check of a card's permit on a day (R10): the reason of the first failing test, or none for a pass. -/
def cardInCheck (p? : Option Permit) (today : Nat) : Option Reason :=
  match p? with
  | none => some .noPermit
  | some p =>
    firstFailure
      [(p.state != .suspended, .suspended),
       (p.state != .locked, .locked),
       (p.state != .retiring, .retiring),
       (decide (p.validFrom ≤ today), .notYetValid),
       (decide (today ≤ p.validUntil), .expired),
       (p.boundOrder.isNone, .cardInUse)]

/-- Bind a card to an order: the check of R10 again, and on a pass bound_order is set (R11). -/
def State.bindPermit (card orderNo : Nat) (s : State) : Except Reason State :=
  match cardInCheck (s.permit? card) s.clock.day with
  | some r => .error r
  | none => .ok (s.modPermit card fun p => { p with boundOrder := some orderNo })

/-- Unbind a card: bound_order is cleared, and a RETIRING record is then removed (R11). -/
def State.unbindPermit (card : Nat) (s : State) : State :=
  match s.permit? card with
  | none => s
  | some p =>
    if p.state = .retiring then s.removePermit card
    else s.modPermit card fun q => { q with boundOrder := none }

/-- Product class: the thousands digit of a product code (spec/00, "Units and ranges"). -/
def productClass (product : Nat) : Nat := product / 1000

/-- The tests of the start check for a product on a day (R12). -/
def startTests (p : Permit) (product today : Nat) : List (Bool × Reason) :=
  [(p.state == .active, .permitStopped),
   (decide (p.validFrom ≤ today) && decide (today ≤ p.validUntil), .permitStopped),
   (p.endorsements.getLsbD (productClass product), .notEndorsed)]

/-! ## Allowance -/

/-- A reservation: the segment's preset, the litres set aside, and whether the preset was trimmed (R14, R15). -/
structure Reservation where
  presetMl : Nat
  reservedL : Nat
  trimmed : Bool
  deriving DecidableEq, Repr

/-- The reservation for a remainder, or none for the refusal ALLOWANCE (R14, R15). -/
def Permit.reservation (p : Permit) (remainderMl : Nat) : Option Reservation :=
  let full : Reservation := ⟨remainderMl, ceilDiv remainderMl 1000, false⟩
  match p.allowance with
  | none => some full
  | some allowance =>
    if p.used + p.reserved + full.reservedL ≤ allowance then some full
    else if p.used + p.reserved + Config.minTrim ≤ allowance then
      let available := allowance - p.used - p.reserved
      some ⟨available * 1000, available, true⟩
    else none

/-- The strike of a counted OVERFILL end (R18). -/
def Permit.strike (p : Permit) : Permit :=
  let strikes := min Config.maxStrikes (p.strikes + 1)
  { p with
    strikes := strikes
    state := if strikes = Config.maxStrikes && (p.state == .active || p.state == .suspended) then .locked else p.state }

/-- The charge of a segment end (R16), with the strike where R18 asks for it. -/
def Permit.charge (reservation netMl : Nat) (strike : Bool) (p : Permit) : Permit :=
  let q := { p with reserved := p.reserved - reservation, used := satAdd Config.maxUsed p.used (litres netMl) }
  if strike then q.strike else q

/-- The day rollover: every permit's used_L becomes 0 (R17). -/
def State.rollover (s : State) : State := { s with permits := s.permits.map fun p => { p with used := 0 } }

end Sys2Proof.Machine
end

