-- ==== Sys2Proof/Machine/Clock.lean ====
section
/-! DEFINITION. The terminal clock with its day rollover (R163..R165) and the attention requests (R168, R171, R195). -/

namespace Sys2Proof.Machine

/-! ## The clock -/

/-- The clock takes a day and a minute and starts its minute timer again; a change of day raises the rollover (R163..R165). -/
def State.setClock (day minute : Nat) (s : State) : State :=
  let s1 := { s with clock := ⟨day, minute, Config.minuteMs⟩ }
  if s.clock.day = day then s1 else s1.rollover

/-- The minute timer's expiry (R163). -/
def State.minuteExpiry (s : State) : State :=
  if s.clock.minute < 1439 then s.setClock s.clock.day (s.clock.minute + 1)
  else s.setClock ((s.clock.day + 1) % 65536) 0

/-- MINUTE_TIMER_EXPIRY (R163). -/
def execMinuteTimerExpiry (s : State) : Host.Outcome State Fault Refusal := .next s.minuteExpiry

/-- CLOCK SET (R165). -/
def clockSet (b : List Byte) (s : State) : State × Answer :=
  if b.length ≠ 4 then (s, .refuse .malformed)
  else if 1439 < u16 b 2 then (s, .refuse .badValue)
  else (s.setClock (u16 b 0) (u16 b 2), .ok [])

/-- CLOCK GET (R165, R195). -/
def clockGet (b : List Byte) (s : State) : State × Answer :=
  if b.length ≠ 0 then (s, .refuse .malformed)
  else (s, .ok (b2 s.clock.day ++ b2 s.clock.minute ++ b1 (secondsLeft (some s.clock.minuteTimer))))

/-! ## Attention requests -/

/-- What a read returns of a source: kind, number, level and the items of its kind (R171, R195). -/
def State.sourceBytes (s : State) (src : Source) : List Byte :=
  let lv := flag1 (s.level src)
  match src with
  | .bay b =>
    let x := s.bay b
    b1 0 ++ b1 b.val ++ lv ++ b1 x.state.code ++ b1 (unhealthyByte x.inputs) ++ flag1 (x.holdFlags == 0)
  | .arm a =>
    let o := s.att.occurrences[a]
    b1 1 ++ b1 a.val ++ lv ++ b1 (s.arm a).status.code ++ b1 o.flagByte ++ b1 o.refusedBays.toNat
  | .injector j => b1 2 ++ b1 j.val ++ lv ++ b1 (s.injector j).state.code
  | .slot k =>
    let serial := match s.slot k with
      | .sealed n => (n.opening.map (·.serial)).getD 0
      | .free => 0
      | .reserved _ => 0
      | .opened _ => 0
    b1 3 ++ b1 k.val ++ lv ++ b1 (s.slot k).code ++ b4 serial
  | .want => b1 4 ++ b1 0 ++ lv ++ b1 s.cache.wants.length
  | .referral => b1 5 ++ b1 0 ++ lv ++ b1 s.referrals.length
  | .cal => b1 6 ++ b1 0 ++ lv

/-- The marked sources in the order of R171. -/
def State.markedSources (s : State) : List Source := allSources.filter s.att.marked

/-- Clear what a read has returned: the mark, and an arm's occurrence record (R171, R169). -/
def Attention.clear (t : Attention) (src : Source) : Attention :=
  match src with
  | .arm a => { t.put (.arm a) false with occurrences := t.occurrences.set a.val Occurrences.empty a.isLt }
  | .bay _ => t.put src false
  | .injector _ => t.put src false
  | .slot _ => t.put src false
  | .want => t.put src false
  | .referral => t.put src false
  | .cal => t.put src false

/-- ATTENTION READ (R171, R195). -/
def attentionRead (b : List Byte) (s : State) : State × Answer :=
  if b.length ≠ 0 then (s, .refuse .malformed)
  else
    let batch := s.markedSources.take Config.attentionBatch
    let s1 := { s with att := batch.foldl Attention.clear s.att }
    (s1, .ok (b1 batch.length ++ b1 s1.markedSources.length ++ batch.flatMap s.sourceBytes))

/-- The selection a code stands for (R194). -/
def edgeOf (code : Nat) : Option Edge :=
  match code with
  | 0 => some .onset
  | 1 => some .clearance
  | 2 => some .both
  | _ => none

/-- The selections with that of a source kind replaced; none for a kind without a selection (R168, R195). -/
def Edges.put (e : Edges) (kind : Nat) (sel : Edge) : Option Edges :=
  match kind with
  | 0 => some { e with bay := sel }
  | 1 => some { e with arm := sel }
  | 2 => some { e with injector := sel }
  | 4 => some { e with want := sel }
  | 5 => some { e with referral := sel }
  | 6 => some { e with cal := sel }
  | _ => none

/-- ATTENTION EDGES (R168). -/
def attentionEdges (b : List Byte) (s : State) : State × Answer :=
  if b.length ≠ 2 then (s, .refuse .malformed)
  else match (edgeOf (u8 b 1)).bind (s.att.edges.put (u8 b 0)) with
    | none => (s, .refuse .badValue)
    | some e => ({ s with att := { s.att with edges := e } }, .ok [])

end Sys2Proof.Machine
end

