-- ==== Sys2Proof/Machine/Notes.lean ====
section
/-! DEFINITION. The note store: reservation (R150), opening (R151), counting (R152), write-back (R153), settling at order
close (R154, R155), the derived figures (R156, R100, R101) and the note requests (R157..R160, R199). -/

namespace Sys2Proof.Machine

/-! ## Reservation and opening -/

/-- The lowest-numbered FREE slot (R150). -/
def NoteStore.firstFree (n : NoteStore) : Option SlotId := allSlots.find? fun k => n.slots[k] == .free

/-- The tests of acceptance step 9 for an order (R150). -/
def noteTests (o : Order) (n : NoteStore) : List (Bool × Reason) :=
  [(o.noteSlot.isSome || n.firstFree.isSome, .notesFull), (o.noteSlot.isSome || n.nextSerial.isSome, .serialSpent)]

/-- Reserve the lowest-numbered FREE slot for an order that has none (R59 step 2, R150). -/
def State.reserveNote (o : Order) (b : BayId) (s : State) : State :=
  match o.noteSlot, s.notes.firstFree with
  | some _, _ => s
  | none, none => s
  | none, some k =>
    (s.setSlot k (.reserved
      { orderNo := o.orderNo, card := o.card, bay := b, opening := none, lines := [], closedByRestart := false
        sealedAt := none })).modOrder o.orderNo fun x => { x with noteSlot := some k }

/-- The next serial after one is assigned: none (spent) after the last (R151). -/
def nextAfter (serial : Nat) : Option Nat := if serial = Config.top32 then none else some (serial + 1)

/-- The slot of an order's note. -/
def State.noteSlot? (s : State) (orderNo : Nat) : Option SlotId := (s.order? orderNo).bind (·.noteSlot)

/-- The opening finds the note RESERVED and the serial space spent (R151). -/
def State.openingSpent (s : State) (orderNo : Nat) : Bool :=
  match s.noteSlot? orderNo with
  | none => false
  | some k =>
    match s.slot k with
    | .reserved _ => s.notes.nextSerial.isNone
    | .free => false
    | .opened _ => false
    | .sealed _ => false

/-- The opening of an order's note: a RESERVED note takes its serial and enters OPEN (R151). -/
def State.openNote (orderNo : Nat) (s : State) : State :=
  match s.noteSlot? orderNo with
  | none => s
  | some k =>
    match s.slot k, s.notes.nextSerial with
    | .reserved n, some serial =>
      let s' := s.setSlot k (.opened { n with
        opening := some
          { serial := serial
            carrier := ((s.permit? n.card).map (·.carrier)).getD 0
            day := s.clock.day
            minute := s.clock.minute
            sealCount := s.settings.sealCount
            mode := s.settings.mode } })
      { s' with notes := { s'.notes with nextSerial := nextAfter serial } }
    | _, _ => s

/-- Update an order's OPEN note. -/
def State.modNote (orderNo : Nat) (f : Note → Note) (s : State) : State :=
  match s.noteSlot? orderNo with
  | none => s
  | some k =>
    match s.slot k with
    | .opened n => s.setSlot k (.opened (f n))
    | .free => s
    | .reserved _ => s
    | .sealed _ => s

def Note.line? (n : Note) (compartment : Nat) : Option NoteLine := n.lines.find? (·.compartment == compartment)

def Note.modLine (compartment : Nat) (f : NoteLine → NoteLine) (n : Note) : Note :=
  { n with lines := n.lines.map fun l => if l.compartment == compartment then f l else l }

/-- The note line of an order's compartment. -/
def State.noteLine? (s : State) (orderNo compartment : Nat) : Option NoteLine :=
  ((s.noteSlot? orderNo).bind fun k => (s.slot k).note?).bind (·.line? compartment)

/-! ## Counting and write-back -/

/-- A note line before its first count (R152). -/
def freshNoteLine (l : Line) (a : ArmId) : NoteLine where
  compartment := l.compartment
  product := l.product
  basis := l.basis
  presetL := l.presetL
  arm := a
  segments := 0
  indicated := 0
  gross := 0
  net := 0
  sumTGV := 0
  sumGVT := 0
  calSerial := none
  flags := 0
  finalState := none
  additives := []

/-- The count of a segment on a note: its line is appended if it has none, and counted (R152). -/
def Note.count (l : Line) (a : ArmId) (n : Note) : Note :=
  let n' := if (n.line? l.compartment).isNone then { n with lines := n.lines ++ [freshNoteLine l a] } else n
  n'.modLine l.compartment fun x => { x with segments := x.segments + 1, arm := a }

/-- The volume write-back of a counted segment to its note line (R153). -/
def NoteLine.writeBack (g : Segment) (cause : EndCause) (l : NoteLine) : NoteLine :=
  let serialDiffers : Bool :=
    match l.calSerial, g.calSerial with
    | some x, some y => x != y
    | _, _ => false
  { l with
    indicated := satAdd Config.top32 l.indicated g.indicated
    gross := satAdd Config.top32 l.gross g.gross
    net := satAdd Config.top32 l.net g.net
    sumTGV := l.sumTGV + g.sumTGV
    sumGVT := satAdd Config.top32 l.sumGVT g.sumGVT
    calSerial := g.calSerial
    flags :=
      let f := setFlag .mixedCal (serialDiffers || g.mixedCal) l.flags
      let f := setFlag .tempHeld g.tempHeld f
      let f := setFlag .uncompensated g.uncompensated f
      let f := setFlag .overrun g.overrun f
      let f := setFlag .trimmed g.trimmed f
      match cause.lineFlag with
      | some c => setFlag c true f
      | none => f }

/-! ## Settling at order close -/

/-- A note sealed: final states of its order's lines, the restart flag, and the stamp (R155). -/
def Note.seal (o : Order) (byRestart : Bool) (c : Clock) (n : Note) : Note :=
  { n with
    lines := n.lines.map fun l => { l with finalState := (o.line? l.compartment).map (·.state) }
    closedByRestart := byRestart
    sealedAt := some ⟨c.day, c.minute⟩ }

/-- Settle an order's note at its close: a RESERVED slot is freed, an OPEN note is sealed (R154, R155).
Answers the serial of the note sealed, or 0. -/
def State.settleNote (o : Order) (byRestart : Bool) (s : State) : State × Nat :=
  match o.noteSlot with
  | none => (s, 0)
  | some k =>
    match s.slot k with
    | .reserved _ => (s.setSlot k .free, 0)
    | .opened n =>
      let s' := s.setSlot k (.sealed (n.seal o byRestart s.clock))
      ({ s' with notes := { s'.notes with sealedList := s'.notes.sealedList ++ [k] } }.mark (.slot k),
        (n.opening.map (·.serial)).getD 0)
    | .free => (s, 0)
    | .sealed _ => (s, 0)

/-! ## Derived values and layouts -/

/-- Average temperature of a line, absent when no compensated volume stands in its sums (R101). -/
def NoteLine.averageTemp (l : NoteLine) : Option Int :=
  if l.sumGVT = 0 then none else some (nearestDiv l.sumTGV l.sumGVT)

/-- An additive entry in a line part (R199). -/
def Additive.bytes (e : Additive) : List Byte :=
  b1 e.cls ++ b1 (orCode 0xFF (e.injector.map (·.val))) ++ b8 e.requiredUl ++ b8 e.dosedUl ++ b1 e.flagByte
    ++ b4 (litres e.requiredUl) ++ b4 (litres e.dosedUl)

/-- A line part of a note (R199). -/
def NoteLine.bytes (l : NoteLine) : List Byte :=
  b1 l.compartment ++ b2 l.product ++ b1 l.basis.code ++ b4 l.presetL ++ b1 l.arm.val ++ b1 l.segments
    ++ b4 l.indicated ++ b4 l.gross ++ b4 l.net ++ i8 l.sumTGV ++ b4 l.sumGVT ++ b2 (orCode 0xFFFF l.calSerial)
    ++ b2 l.flagWord ++ b1 (orCode 0xFF (l.finalState.map LineState.code))
    ++ b4 (litres l.indicated) ++ b4 (litres l.gross) ++ b4 (litres l.net) ++ i2 (l.averageTemp.getD 0)
    ++ b1 l.additives.length ++ l.additives.flatMap Additive.bytes

/-- Part 0 of a note: the header with the note totals (R199, R156). While the note is RESERVED the carrier, the opened day and
minute, the seal count and the mode are sent as 0: DESIGN CHOICE (log 28). -/
def noteHeader (k : SlotId) (x : NoteSlot) (n : Note) : List Byte :=
  b1 k.val ++ b1 x.code ++ b1 (n.opening.isSome.toNat + n.sealedAt.isSome.toNat * 2)
    ++ b4 n.orderNo ++ b4 n.card ++ b1 n.bay.val
    ++ b4 ((n.opening.map (·.serial)).getD 0) ++ b2 ((n.opening.map (·.carrier)).getD 0)
    ++ b2 ((n.opening.map (·.day)).getD 0) ++ b2 ((n.opening.map (·.minute)).getD 0)
    ++ b2 ((n.opening.map (·.sealCount)).getD 0) ++ b1 ((n.opening.map (·.mode.code)).getD 0)
    ++ flag1 n.closedByRestart
    ++ b2 ((n.sealedAt.map (·.day)).getD 0) ++ b2 ((n.sealedAt.map (·.minute)).getD 0)
    ++ b1 n.lines.length ++ (padTo 8 0 (n.lines.map (·.compartment))).flatMap b1
    ++ b4 ((n.lines.map fun l => litres l.gross).sum) ++ b4 ((n.lines.map fun l => litres l.net).sum)

/-- A part of a note: 0 is the header, n its n-th line; none above the line count (R199). -/
def notePart (k : SlotId) (x : NoteSlot) (n : Note) : Nat → Option (List Byte)
  | 0 => some (noteHeader k x n)
  | i + 1 => (n.lines[i]?).map NoteLine.bytes

/-! ## Requests -/

/-- NOTE PEEK (R157, R199). -/
def notePeek (b : List Byte) (s : State) : State × Answer :=
  if b.length ≠ 2 then (s, .refuse .malformed)
  else match slotOf (u8 b 0) with
    | none => (s, .refuse .badValue)
    | some k =>
      if 8 < u8 b 1 then (s, .refuse .badValue)
      else match (s.slot k).note?.bind fun n => notePart k (s.slot k) n (u8 b 1) with
        | none => (s, .refuse .notFound)
        | some part => (s, .ok part)

/-- Free a SEALED slot: it leaves the sealed list and its record is discarded; no mark is set (R158). -/
def State.freeSealed (k : SlotId) (s : State) : State :=
  let s' := s.setSlot k .free
  { s' with notes := { s'.notes with sealedList := s'.notes.sealedList.filter (· != k) } }

/-- NOTE TAKE (R158, R199): the slot's state is tested before the part. -/
def noteTake (b : List Byte) (s : State) : State × Answer :=
  if b.length ≠ 2 then (s, .refuse .malformed)
  else match slotOf (u8 b 0) with
    | none => (s, .refuse .badValue)
    | some k =>
      match s.slot k with
      | .sealed n =>
        if 8 < u8 b 1 then (s, .refuse .badValue)
        else match notePart k (.sealed n) n (u8 b 1) with
          | none => (s, .refuse .notFound)
          | some part => (s.freeSealed k, .ok part)
      | .free => (s, .wrongState none)
      | .reserved _ => (s, .wrongState none)
      | .opened _ => (s, .wrongState none)

/-- Number of slots in the state with a code (R159). -/
def NoteStore.countCode (n : NoteStore) (code : Nat) : Nat := (allSlots.filter fun k => n.slots[k].code == code).length

/-- A SEALED slot in the reply of NOTE LIST (R195). -/
def sealedItem (n : NoteStore) (k : SlotId) : List Byte :=
  match n.slots[k].note? with
  | none => []
  | some x =>
    b1 k.val ++ b4 ((x.opening.map (·.serial)).getD 0) ++ b4 x.orderNo ++ b1 x.bay.val
      ++ b2 ((x.sealedAt.map (·.day)).getD 0) ++ b2 ((x.sealedAt.map (·.minute)).getD 0)

/-- NOTE LIST (R159, R195). -/
def noteList (b : List Byte) (s : State) : State × Answer :=
  if b.length ≠ 0 then (s, .refuse .malformed)
  else
    let listed := s.notes.sealedList.take Config.noteBatch
    (s, .ok (b1 (s.notes.countCode 0) ++ b1 (s.notes.countCode 1) ++ b1 (s.notes.countCode 2) ++ b1 (s.notes.countCode 3)
      ++ b4 (orCode 0 s.notes.nextSerial) ++ b1 listed.length ++ listed.flatMap (sealedItem s.notes)))

/-- SERIAL SET (R160). -/
def serialSet (b : List Byte) (s : State) : State × Answer :=
  if b.length ≠ 4 then (s, .refuse .malformed)
  else if u32 b 0 = 0 then (s, .refuse .badValue)
  else if !(allSlots.all fun k => s.slot k == .free) then (s, .refuse .inUse)
  else ({ s with notes := { s.notes with nextSerial := some (u32 b 0) } }, .ok [])

end Sys2Proof.Machine
end

