-- ==== Sys2Proof/Machine/Segments.lean ====
section
/-! DEFINITION. The segment record: at acceptance (R55), the close command (R68, R70), and the parts of one event that
follow one from another (a segment end, a grant, a resume), which Cascade.lean takes one after the other. -/

namespace Sys2Proof.Machine

/-- A segment at acceptance (R55). -/
def freshSegment (orderNo compartment : Nat) (b : BayId) (o : Origin) (presetMl reservation : Nat) (trimmed : Bool) :
    Segment where
  orderNo := orderNo
  compartment := compartment
  bay := b
  origin := o
  phase := .awaitProfile
  counted := false
  presetMl := presetMl
  trimmed := trimmed
  reservation := reservation
  entry := none
  calSerial := none
  claims := []
  wantTimer := none
  injectorTimer := none
  periodTimer := none
  pulseTotalA := 0
  pulseTotalB := 0
  indicated := 0
  gross := 0
  net := 0
  residueI := 0
  residueG := 0
  residueN := 0
  lastTemp := none
  holdAge := 0
  tempHeld := false
  uncompensated := false
  sumTGV := 0
  sumGVT := 0
  fidelityCount := 0
  zeroRun := 0
  closeRecorded := false
  closeCounter := 0
  postClose := 0
  cap := false
  mixedCal := false
  undosed := 0
  doseFault := 0
  overrun := false
  endCause := none
  period := none

/-- The close command: the phase after it, the cause, the close counter and the zero-pulse run at 0 (R68, R70). -/
def Segment.closeCommand (ph : Phase) (cause : EndCause) (g : Segment) : Segment :=
  { g with phase := ph, endCause := some cause, closeRecorded := true, closeCounter := 0, zeroRun := 0 }

/-- A stop, END or trip at a segment that has a valve to close: flowing goes to CLOSING under the close command, PAUSING
turns to CLOSING keeping its counters, CLOSING keeps its cause (R70). -/
def Segment.shut (cause : EndCause) (g : Segment) : Segment :=
  match g.phase with
  | .lowStart => g.closeCommand .closing cause
  | .high => g.closeCommand .closing cause
  | .lowStop => g.closeCommand .closing cause
  | .pausing => { g with phase := .closing, endCause := some cause }
  | .closing => g
  | .awaitProfile => g
  | .awaitInjector => g

/-- CAL or a mandatory injector fault: only a flowing segment goes to CLOSING (R70, R139, R176). -/
def Segment.shutFlowing (cause : EndCause) (g : Segment) : Segment :=
  if g.phase.flowing then g.closeCommand .closing cause else g

/-- A loss of permission: a flowing segment goes to PAUSING with cause HOLD (R44, R70). -/
def Segment.pause (g : Segment) : Segment := if g.phase.flowing then g.closeCommand .pausing .hold else g

/-- The parts of an event that follow one from another. -/
inductive Job where
  /-- A segment ends; each of its releases takes its grant at once (R74, R141). -/
  | endSegment (a : ArmId) (cause : EndCause)
  /-- A segment ends together with others of the same event; the grants are held (R141). -/
  | endGrouped (a : ArmId) (cause : EndCause)
  /-- One claim is released, and the injector granted if it became IDLE (R74 step 6, R141). -/
  | releaseClaim (a : ArmId) (j : InjId)
  /-- The arm's last steps of the end (R74 step 7). -/
  | finishEnd (a : ArmId) (cause : EndCause)
  /-- The end is taken at the bay (R74 step 8, R41). -/
  | bayEnd (b : BayId) (a : ArmId) (cause : EndCause)
  /-- A bay with no segment takes the CARDED entry after an end at LOADING or a restoration (R41, R45). -/
  | settleBay (b : BayId)
  /-- A resume is offered to a waiting arm (R45, R76). -/
  | resume (b : BayId) (a : ArmId)
  /-- The segment enters AWAIT_INJECTOR (R62). -/
  | enterInjector (a : ArmId)
  /-- Acquisition is complete (R64). -/
  | complete (a : ArmId)
  /-- The arbiter over an injector that became IDLE (R131). -/
  | grant (j : InjId)
  deriving DecidableEq, Repr

end Sys2Proof.Machine
end

