-- ==== Sys2Proof/Machine/Dosing.lean ====
section
/-! DEFINITION. The dosing unit: recipes (R121..R124), claims and class wait queues (R130..R133), pacing, settling and the
cap (R134, R135, R140), confirms, strays, misses and faults (R136..R139, R142), release (R141), the additive write-back
(R143, R144) and the requests on recipes and injectors (R122, R123, R126..R129, R132). -/

namespace Sys2Proof.Machine

/-! ## Class wait queues -/

/-- The wait queue of an additive class 1..15 (R131). -/
def Dosing.queue (d : Dosing) (cls : Nat) : List Waiter := d.queues.toList.getD (cls - 1) []

/-- Replace the wait queue of a class. -/
def State.setQueue (cls : Nat) (q : List Waiter) (s : State) : State :=
  { s with dosing := { s.dosing with queues := s.dosing.queues.setIfInBounds (cls - 1) q } }

/-- An arm leaves every class wait queue (R132). -/
def State.leaveQueues (a : ArmId) (s : State) : State :=
  { s with dosing := { s.dosing with queues := s.dosing.queues.map fun q => q.filter fun w => w.arm != a } }

/-! ## Owed shots, settling and the cap -/

/-- The shot volume in nanolitres (R125). -/
def Injector.threshold (x : Injector) : Nat := x.shotUl * 1000

/-- Owed shots (R140). -/
def Injector.owed (x : Injector) : Nat :=
  if x.state = .claimed then x.firing.toNat + x.queued.toNat + x.accNl / x.threshold else 0

/-- Step 1 of the settle (R135). -/
def Injector.queueShot (x : Injector) : Injector :=
  if !x.queued && x.threshold ≤ x.accNl then { x with queued := true, accNl := x.accNl - x.threshold } else x

/-- Step 2 of the settle (R135). -/
def Injector.fireShot (x : Injector) : Injector :=
  if !x.firing && x.queued then { x with queued := false, firing := true, confirmTimer := some Config.confirmMs } else x

/-- The settle: steps 1 and 2 until neither applies, which is after 1, 2, 1 (R135). -/
def Injector.settle (x : Injector) : Injector := x.queueShot.fireShot.queueShot

/-- An injector in CLAIMED settles; a stroke commanded is driven on the shot output (R135). -/
def State.settleInjector (j : InjId) (s : State) : State :=
  if (s.injector j).state = .claimed then
    let s' := s.modInjector j Injector.settle
    if !(s.injector j).firing && (s'.injector j).firing then s'.emit (.stroke j) else s'
  else s

/-- The largest owed shots among a segment's claims (R140). -/
def State.largestOwed (s : State) (g : Segment) : Nat := (g.claims.map fun c => (s.injector c.injector).owed).foldl max 0

/-- The cap under the largest owed shots: set at 3, cleared at 1, left at 2 (R140). -/
def capAfter (owed : Nat) (cap : Bool) : Bool := if 3 ≤ owed then true else if owed ≤ 1 then false else cap

/-- Evaluate the cap of an arm's segment (R140). -/
def State.evalCap (a : ArmId) (s : State) : State := s.modSeg a fun g => { g with cap := capAfter (s.largestOwed g) g.cap }

/-! ## Claims -/

/-- The injector's part of a claim start (R133). -/
def Injector.claimFor (c : Claimant) (x : Injector) : Injector :=
  { x with claimant := some c, accNl := 0, queued := false, firing := false, confirmed := 0 }

/-- A claim among a segment's claims, in component order (R95). -/
def insertClaim (c : Claim) : List Claim → List Claim
  | [] => [c]
  | d :: ds => if c.index < d.index then c :: d :: ds else d :: insertClaim c ds

/-- A claim starts: the injector enters CLAIMED and the segment records the claim (R133). -/
def State.startClaim (a : ArmId) (j : InjId) (index : Nat) (c : Component) (s : State) : State :=
  ((s.modInjector j (Injector.claimFor ⟨a, index⟩)).setInjectorState j .claimed).modSeg a fun g =>
    { g with claims := insertClaim ⟨j, index, c, 0, false⟩ g.claims }

/-- The lowest-numbered IDLE injector of a class that reaches an arm (R130). -/
def State.idleInjector (s : State) (cls : Nat) (a : ArmId) : Option InjId :=
  allInjectors.find? fun j =>
    (s.injector j).state == .idle && (s.injector j).cls == cls && (s.injector j).reach.contains a

/-- Settle one component at the AWAIT_INJECTOR entry: claimed, queued or skipped (R62, R130). -/
def State.askComponent (a : ArmId) (index : Nat) (c : Component) (s : State) : State :=
  match s.idleInjector c.cls a with
  | some j => s.startClaim a j index c
  | none =>
    if c.mandatory then s.setQueue c.cls (s.dosing.queue c.cls ++ [⟨a, index, s.clock.minute⟩])
    else s.modSeg a fun g => { g with undosed := g.undosed ||| BitVec.twoPow 3 (index - 1) }

/-- Settle the components of a snapshot one after the other, from a component index on (R130). -/
def State.askComponents (a : ArmId) : Nat → List Component → State → State
  | _, [], s => s
  | index, c :: cs, s => State.askComponents a (index + 1) cs (s.askComponent a index c)

/-- A segment holds a claim for a component index. -/
def Segment.claims? (g : Segment) (index : Nat) : Option Claim := g.claims.find? (·.index == index)

/-- Every mandatory component of a snapshot is granted, counted from a component index on (R62). -/
def Segment.granted (g : Segment) : Nat → List Component → Bool
  | _, [] => true
  | index, c :: cs => (!c.mandatory || (g.claims? index).isSome) && g.granted (index + 1) cs

/-- The AWAIT_INJECTOR entry of an arm's segment (R62). -/
def State.enterInjector (a : ArmId) (s : State) : State × List Job :=
  match s.seg? a with
  | none => (s, [])
  | some g =>
    match s.segLine? g with
    | none => (s, [])
    | some l =>
      match l.recipe, l.snapshot with
      | none, _ => (s, [.complete a])
      | some _, none => (s, [.endSegment a .noRecipe])
      | some _, some cs =>
        let s' := s.askComponents a 1 cs
        if (s'.seg? a).any fun g' => g'.granted 1 cs then (s', [.complete a])
        else (s'.modSeg a fun g' => { g' with injectorTimer := some Config.injectorWaitMs }, [])

/-- The component of a waiter's line snapshot. -/
def State.waiterComponent? (s : State) (w : Waiter) : Option Component :=
  ((s.seg? w.arm).bind s.segLine?).bind fun l => l.snapshot.bind fun cs => cs[w.index - 1]?

/-- The grant of an injector that became IDLE: the oldest waiter of its class whose arm it reaches leaves the queue and
its claim starts; with the last mandatory component the arm goes on (R131, R63). -/
def State.grant (j : InjId) (s : State) : State × List Job :=
  let x := s.injector j
  if x.state ≠ .idle then (s, [])
  else match (s.dosing.queue x.cls).find? fun w => x.reach.contains w.arm with
    | none => (s, [])
    | some w =>
      let s1 := s.setQueue x.cls ((s.dosing.queue x.cls).filter fun v => v.arm != w.arm)
      match s1.waiterComponent? w with
      | none => (s1, [])
      | some c =>
        let s2 := s1.startClaim w.arm j w.index c
        match s2.seg? w.arm with
        | none => (s2, [])
        | some g =>
          let cs := ((s2.segLine? g).bind (·.snapshot)).getD []
          if g.granted 1 cs then (s2.modSeg w.arm fun g' => { g' with injectorTimer := none }, [.complete w.arm])
          else (s2, [])

/-! ## Release -/

/-- Release an injector, by its state (R141); the grant is the caller's. -/
def State.releaseInjector (j : InjId) (s : State) : State :=
  let x := s.injector j
  match x.state with
  | .claimed =>
    let s' := s.modInjector j fun y => { y with queued := false, accNl := 0, claimant := none }
    s'.setInjectorState j (if x.firing then .releasing else .idle)
  | .fault => s.modInjector j fun y => { y with claimant := none }
  | .idle => s
  | .releasing => s
  | .outOfService => s

/-- Release one claim of an arm's segment (R141). -/
def State.releaseClaim (a : ArmId) (j : InjId) (s : State) : State :=
  (s.releaseInjector j).modSeg a fun g => { g with claims := g.claims.filter fun c => c.injector != j }

/-- Release every claim of an arm's segment, in component order: DESIGN CHOICE (log 27). -/
def State.releaseClaims (a : ArmId) (s : State) : State :=
  match s.seg? a with
  | none => s
  | some g => (g.claims.map (·.injector)).foldl (fun t j => t.releaseClaim a j) s

/-! ## Pacing -/

/-- The hand-over of a period's volume to one claim (R134). -/
def State.handOver (a : ArmId) (gv : Nat) (c : Claim) (s : State) : State :=
  let s1 := s.modSeg a fun g =>
    { g with claims := g.claims.map fun d =>
        if d.index == c.index then { d with pacedMl := satAdd Config.top32 d.pacedMl gv } else d }
  (s1.modInjector c.injector fun x =>
    if x.state = .claimed then { x with accNl := x.accNl + gv * c.component.dose } else x).settleInjector c.injector

/-- Hand a period's volume to every claim in component order, then evaluate the cap (R95, R134). -/
def State.handAll (a : ArmId) (gv : Nat) (s : State) : State :=
  match s.seg? a with
  | none => s
  | some g => if g.claims.isEmpty then s else (g.claims.foldl (fun t c => t.handOver a gv c) s).evalCap a

/-! ## Faults, confirms and expiries -/

/-- The part of a fault entry that acts on the segment holding the claim (R139). -/
def State.faultSegment (j : InjId) (c : Claimant) (s : State) : State × List Job :=
  match s.seg? c.arm with
  | none => (s, [])
  | some g =>
    let mandatory := (g.claims? c.index).any (·.component.mandatory)
    let s1 := (s.modSeg c.arm fun g' =>
      { g' with
        claims := g'.claims.map fun d => if d.injector == j then { d with doseFault := true } else d
        doseFault := g'.doseFault ||| BitVec.twoPow 3 (c.index - 1) }).evalCap c.arm
    if !mandatory then (s1, [])
    else if g.phase = .awaitInjector then (s1, [.endSegment c.arm .doseFault])
    else (s1.modSeg c.arm (Segment.shutFlowing .doseFault), [])

/-- An injector enters FAULT (R139). -/
def State.faultEntry (j : InjId) (s : State) : State × List Job :=
  let x := s.injector j
  let s1 := (s.modInjector j fun y =>
    { y with queued := false, accNl := 0, confirmTimer := none, firing := false }).setInjectorState j .fault
  match x.state, x.claimant with
  | .claimed, some c => s1.faultSegment j c
  | _, _ => (s1, [])

/-- Evaluate the cap of the segment that holds an injector (R140). -/
def State.evalCapOf (j : InjId) (s : State) : State :=
  match (s.injector j).claimant with
  | some c => s.evalCap c.arm
  | none => s

/-- A stray confirm edge (R138). -/
def State.stray (j : InjId) (s : State) : State × List Job :=
  let s1 := s.modInjector j fun x => { x with strays := x.strays + 1 }
  if Config.strayLimit ≤ (s.injector j).strays + 1 then s1.faultEntry j else (s1, [])

/-- A confirm edge (R136, R142). -/
def State.confirmEdge (j : InjId) (s : State) : State × List Job :=
  let x := s.injector j
  match x.state with
  | .claimed =>
    if x.firing then
      (((s.modInjector j fun y =>
        { y with confirmed := y.confirmed + 1, misses := 0, confirmTimer := none, firing := false }).settleInjector j).evalCapOf j, [])
    else s.stray j
  | .releasing =>
    ((s.modInjector j fun y => { y with confirmTimer := none, firing := false, misses := 0 }).setInjectorState j .idle,
      [.grant j])
  | .idle => s.stray j
  | .fault => (s, [])
  | .outOfService => (s, [])

/-- The expiry of a confirm timer that runs (R137, R142). -/
def State.confirmExpiry (j : InjId) (s : State) : State × List Job :=
  let x := s.injector j
  if x.confirmTimer.isNone then (s, [])
  else
    let s1 := s.modInjector j fun y => { y with firing := false, confirmTimer := none, misses := y.misses + 1 }
    match x.state with
    | .claimed =>
      if Config.missLimit ≤ x.misses + 1 then s1.faultEntry j else ((s1.settleInjector j).evalCapOf j, [])
    | .releasing =>
      if Config.missLimit ≤ x.misses + 1 then (s1.setInjectorState j .fault, []) else (s1.setInjectorState j .idle, [.grant j])
    | .idle => (s, [])
    | .fault => (s, [])
    | .outOfService => (s, [])

/-- The expiry, if it comes, is the miss that brings the injector to FAULT (R137, R142). -/
def Injector.nextMissFaults (x : Injector) : Bool :=
  x.confirmTimer.isSome && (x.state == .claimed || x.state == .releasing) && Config.missLimit ≤ x.misses + 1

/-- A confirm edge, if it comes, is the stray that brings the injector to FAULT (R138). -/
def Injector.nextStrayFaults (x : Injector) : Bool :=
  (x.state == .idle || (x.state == .claimed && !x.firing)) && Config.strayLimit ≤ x.strays + 1

/-! ## Additive write-back -/

/-- An additive entry before its first write-back (R143). -/
def freshAdditive (cls : Nat) : Additive where
  cls := cls
  injector := none
  requiredUl := 0
  dosedUl := 0
  undosed := false
  underdosed := false
  doseFault := false

/-- UNDERDOSED on running totals (R144). -/
def underdosedTest (requiredUl dosedUl shotUl : Nat) : Bool :=
  dosedUl * 100 < requiredUl * 95 && dosedUl + shotUl ≤ requiredUl

/-- The entry of a claimed component (R143, R144). -/
def Additive.addClaim (c : Claim) (x : Injector) (e : Additive) : Additive :=
  let required := e.requiredUl + c.pacedMl * c.component.dose / 1000
  let dosed := e.dosedUl + x.confirmed * x.shotUl
  { e with
    requiredUl := required
    dosedUl := dosed
    injector := some c.injector
    doseFault := e.doseFault || c.doseFault
    underdosed := underdosedTest required dosed x.shotUl }

/-- Update the entry of a class, appending it if the line has none (R143). -/
def NoteLine.modAdditive (cls : Nat) (f : Additive → Additive) (l : NoteLine) : NoteLine :=
  if l.additives.any fun e => e.cls == cls then
    { l with additives := l.additives.map fun e => if e.cls == cls then f e else e }
  else { l with additives := l.additives ++ [f (freshAdditive cls)] }

/-- The write-back of the components of a snapshot to a note line, from a component index on (R143). -/
def additiveWriteBack (g : Segment) (inj : InjId → Injector) : Nat → List Component → NoteLine → NoteLine
  | _, [], l => l
  | index, c :: cs, l =>
    additiveWriteBack g inj (index + 1) cs
      (match g.claims? index with
       | some k => l.modAdditive c.cls (Additive.addClaim k (inj k.injector))
       | none => l.modAdditive c.cls fun e => { e with undosed := true })

/-! ## Recipe requests -/

/-- A recipe in its place of the ascending id order (R121; log 13). -/
def insertRecipe (r : Recipe) : List Recipe → List Recipe
  | [] => [r]
  | q :: qs => if r.id < q.id then r :: q :: qs else q :: insertRecipe r qs

def State.recipe? (s : State) (id : Nat) : Option Recipe := s.dosing.recipes.find? (·.id == id)

/-- Component `i` of a RECIPE PUT body: class (1), dose_ppm (2), mark (1) (R194). -/
def readComponent (b : List Byte) (i : Nat) : Component := ⟨u8 b (2 + 4 * i), u16 b (3 + 4 * i), u8 b (5 + 4 * i) = 1⟩

/-- The validation of R122. -/
def recipeValid (b : List Byte) : Bool :=
  let n := u8 b 1
  let cs := (List.range n).map (readComponent b)
  u8 b 0 != 0 && 1 ≤ n && n ≤ 3 && cs.all (fun c => 1 ≤ c.cls && c.cls ≤ 15 && 1 ≤ c.dose && c.dose ≤ 20000)
    && (List.range n).all (fun i => u8 b (5 + 4 * i) ≤ 1) && decide (cs.map (·.cls)).Nodup

/-- RECIPE PUT (R122). -/
def recipePut (b : List Byte) (s : State) : State × Answer :=
  if b.length < 2 || b.length ≠ 2 + 4 * u8 b 1 then (s, .refuse .malformed)
  else if !recipeValid b then (s, .refuse .badValue)
  else
    let r : Recipe := ⟨u8 b 0, (List.range (u8 b 1)).map (readComponent b)⟩
    if (s.recipe? r.id).isSome then
      ({ s with dosing := { s.dosing with recipes := s.dosing.recipes.map fun q => if q.id == r.id then r else q } },
        .ok (b1 Word.replaced.code))
    else if Config.recipeCapacity ≤ s.dosing.recipes.length then (s, .refuse .full)
    else ({ s with dosing := { s.dosing with recipes := insertRecipe r s.dosing.recipes } }, .ok (b1 Word.inserted.code))

/-- A component as a reply carries it (R194). -/
def Component.bytes (c : Component) : List Byte := b1 c.cls ++ b2 c.dose ++ flag1 c.mandatory

/-- RECIPE GET (R123). -/
def recipeGet (b : List Byte) (s : State) : State × Answer :=
  if b.length ≠ 1 then (s, .refuse .malformed)
  else match s.recipe? (u8 b 0) with
    | none => (s, .refuse .notFound)
    | some r => (s, .ok (b1 r.components.length ++ r.components.flatMap Component.bytes))

/-- RECIPE RETIRE (R123). -/
def recipeRetire (b : List Byte) (s : State) : State × Answer :=
  if b.length ≠ 1 then (s, .refuse .malformed)
  else match s.recipe? (u8 b 0) with
    | none => (s, .refuse .notFound)
    | some r => ({ s with dosing := { s.dosing with recipes := s.dosing.recipes.filter fun q => q.id != r.id } }, .ok [])

/-- RECIPE LIST (R123). -/
def recipeList (b : List Byte) (s : State) : State × Answer :=
  if b.length ≠ 0 then (s, .refuse .malformed)
  else (s, .ok (b1 s.dosing.recipes.length ++ s.dosing.recipes.flatMap fun r => b1 r.id))

/-! ## Injector requests -/

/-- An injector that a segment holds or a stroke keeps: CLAIMED, RELEASING, or FAULT with a claimant (R126, R127). -/
def Injector.held (x : Injector) : Bool :=
  match x.state with
  | .claimed => true
  | .releasing => true
  | .fault => x.claimant.isSome
  | .idle => false
  | .outOfService => false

/-- The validation of an INJECTOR SET body (R126). -/
def injectorSetValid (b : List Byte) : Bool :=
  let n := u8 b 2
  let arms := u8s b 3 n
  u8 b 0 ≤ 15 && 1 ≤ u8 b 1 && u8 b 1 ≤ 15 && 1 ≤ n && n ≤ 8 && arms.all (· ≤ 23) && decide arms.Nodup && u8 b (3 + n) ≤ 1

/-- The state after an INJECTOR SET with a service mark (R126). -/
def serviceState (out : Bool) : InjectorState → InjectorState
  | .fault => if out then .outOfService else .fault
  | _ => if out then .outOfService else .idle

/-- INJECTOR SET (R126): the state, the answer, and the grant to take. The reach is kept, and returned, in the order sent:
DESIGN CHOICE (log 20). -/
def injectorSet (b : List Byte) (s : State) : State × Answer × List Job :=
  if b.length < 3 || b.length ≠ 4 + u8 b 2 then (s, .refuse .malformed, [])
  else if !injectorSetValid b then (s, .refuse .badValue, [])
  else match injectorOf (u8 b 0) with
    | none => (s, .refuse .badValue, [])
    | some j =>
      if (s.injector j).held then (s, .refuse .inUse, [])
      else
        let st := serviceState (u8 b (3 + u8 b 2) == 0) (s.injector j).state
        let s' := (s.modInjector j fun x =>
          { x with cls := u8 b 1, reach := (u8s b 3 (u8 b 2)).filterMap armOf, misses := 0, strays := 0 }).setInjectorState j st
        (s', .ok [], if st = .idle then [.grant j] else [])

/-- Count an accepted sealed write (R180). -/
def State.countSeal (s : State) : State :=
  { s with settings := { s.settings with sealCount := satAdd Config.top16 s.settings.sealCount 1 } }

/-- INJECTOR SHOT (R127). -/
def injectorShot (b : List Byte) (s : State) : State × Answer :=
  if b.length ≠ 5 then (s, .refuse .malformed)
  else match injectorOf (u8 b 0) with
    | none => (s, .refuse .badValue)
    | some j =>
      if !(100 ≤ u32 b 1 && u32 b 1 ≤ 1000000) then (s, .refuse .badValue)
      else if !s.settings.cal then (s, .refuse .unsealed)
      else if (s.injector j).held then (s, .refuse .inUse)
      else ((s.modInjector j fun x => { x with shotUl := u32 b 1 }).countSeal, .ok [])

/-- INJECTOR CLEAR (R128): the state, the answer, and the grant to take. -/
def injectorClear (b : List Byte) (s : State) : State × Answer × List Job :=
  if b.length ≠ 1 then (s, .refuse .malformed, [])
  else match injectorOf (u8 b 0) with
    | none => (s, .refuse .badValue, [])
    | some j =>
      if (s.injector j).state ≠ .fault then (s, .wrongState none, [])
      else if (s.injector j).claimant.isSome then (s, .refuse .inUse, [])
      else ((s.modInjector j fun x => { x with misses := 0, strays := 0 }).setInjectorState j .idle, .ok [], [.grant j])

/-- The claimant's part of an INJECTOR GET reply (R129, R195). -/
def State.claimantBytes (s : State) (x : Injector) : List Byte :=
  let g := x.claimant.bind fun c => s.seg? c.arm
  let k := x.claimant.bind fun c => g.bind (·.claims? c.index)
  b4 ((g.map (·.orderNo)).getD 0) ++ b1 ((g.map (·.compartment)).getD 0)
    ++ ((k.map (·.component.bytes)).getD [0, 0, 0, 0]) ++ b4 ((k.map (·.pacedMl)).getD 0)

/-- INJECTOR GET (R129, R195). -/
def injectorGet (b : List Byte) (s : State) : State × Answer :=
  if b.length ≠ 1 then (s, .refuse .malformed)
  else match injectorOf (u8 b 0) with
    | none => (s, .refuse .badValue)
    | some j =>
      let x := s.injector j
      (s, .ok (b1 x.cls ++ b1 x.reach.length ++ (padTo 8 0xFF (x.reach.map (·.val))).flatMap b1 ++ b4 x.shotUl
        ++ b1 x.state.code ++ b1 (orCode 0xFF (x.claimant.map (·.arm.val))) ++ b1 ((x.claimant.map (·.index)).getD 0)
        ++ b8 x.accNl ++ b1 x.slotByte ++ b4 x.confirmed ++ b1 x.misses ++ b1 x.strays ++ b8 x.threshold ++ b4 x.owed
        ++ s.claimantBytes x))

/-- QUEUE LIST (R132, R195). -/
def queueList (b : List Byte) (s : State) : State × Answer :=
  if b.length ≠ 1 then (s, .refuse .malformed)
  else if !(1 ≤ u8 b 0 && u8 b 0 ≤ 15) then (s, .refuse .badValue)
  else
    let q := s.dosing.queue (u8 b 0)
    (s, .ok (b1 q.length ++ q.flatMap fun w =>
      b1 w.arm.val ++ b1 w.index ++ b2 w.minute ++ b1 (secondsLeft ((s.seg? w.arm).bind (·.injectorTimer)))))

end Sys2Proof.Machine
end

