-- ==== Sys2Proof/Machine/Orders.lean ====
section
/-! DEFINITION. The order table: posting, reading and cancelling (R21..R24, R197), selection and bind (R25, R26, R11), line
states (R27), the remainder of a line (R58), order close and revert (R28, R26), and the CARDED entry (R38). -/

namespace Sys2Proof.Machine

/-! ## Posting -/

/-- One line of an ORDER POST body (R197), before validation. -/
structure LineBody where
  compartment : Nat
  product : Nat
  presetL : Nat
  basisCode : Nat
  recipeCode : Nat
  deriving DecidableEq, Repr

/-- Line `i` of an ORDER POST body. -/
def readLineBody (b : List Byte) (i : Nat) : LineBody where
  compartment := u8 b (10 + 10 * i)
  product := u16 b (11 + 10 * i)
  presetL := u32 b (13 + 10 * i)
  basisCode := u8 b (17 + 10 * i)
  recipeCode := u16 b (18 + 10 * i)

/-- An ORDER POST body (R197), before validation. -/
structure OrderBody where
  orderNo : Nat
  card : Nat
  bayCode : Nat
  lines : List LineBody
  deriving DecidableEq, Repr

/-- The fields of an ORDER POST body. -/
def readOrderBody (b : List Byte) : OrderBody where
  orderNo := u32 b 0
  card := u32 b 4
  bayCode := u8 b 8
  lines := (List.range (u8 b 9)).map (readLineBody b)

/-- The recipe code that stands for an absent recipe (R197). -/
def absentRecipe : Nat := 0xFFFF

/-- The validation of one line (R23). -/
def LineBody.valid (l : LineBody) : Bool :=
  compartmentValid l.compartment && 1 ≤ l.product && l.product ≤ 9999 && 100 ≤ l.presetL && l.presetL ≤ 99999
    && l.basisCode ≤ 1 && (l.recipeCode == absentRecipe || (1 ≤ l.recipeCode && l.recipeCode ≤ 255))

/-- The validation of R23. -/
def OrderBody.valid (o : OrderBody) : Bool :=
  1 ≤ o.orderNo && o.orderNo ≤ 999999 && cardIdValid o.card && (o.bayCode == 0xFF || o.bayCode ≤ 7)
    && 1 ≤ o.lines.length && o.lines.length ≤ 8 && decide (o.lines.map (·.compartment)).Nodup && o.lines.all LineBody.valid

/-- A line as posted: OPEN with segments_used 0 (R22). -/
def LineBody.line (l : LineBody) : Line where
  compartment := l.compartment
  product := l.product
  presetL := l.presetL
  basis := if l.basisCode = 0 then .gross else .net
  recipe := if l.recipeCode = absentRecipe then none else some l.recipeCode
  snapshot := none
  state := .opened
  segmentsUsed := 0

/-- An order as posted (R23). -/
def OrderBody.order (o : OrderBody) : Order where
  orderNo := o.orderNo
  card := o.card
  bayPref := if o.bayCode = 0xFF then none else some o.bayCode
  state := .posted
  bay := none
  noteSlot := none
  lines := o.lines.map LineBody.line

/-- ORDER POST of a valid order (R23). -/
def postOrder (o : OrderBody) (s : State) : State × Answer :=
  if (s.order? o.orderNo).isSome then (s, .refuse .inUse)
  else if Config.orderCapacity ≤ s.orders.length then (s, .refuse .full)
  else ({ s with orders := s.orders ++ [o.order] }, .ok [])

/-- ORDER POST (R23): the shape 10 + 10n, the validation, the insertion. -/
def orderPost (b : List Byte) (s : State) : State × Answer :=
  if b.length < 10 || b.length ≠ 10 + 10 * u8 b 9 then (s, .refuse .malformed)
  else if !(readOrderBody b).valid then (s, .refuse .badValue)
  else postOrder (readOrderBody b) s

/-! ## Reading -/

/-- A line as ORDER GET returns it, 25 bytes (R197). -/
def Line.bytes (l : Line) : List Byte :=
  let snapshot := l.snapshot.getD []
  b1 l.compartment ++ b2 l.product ++ b4 l.presetL ++ b1 l.basis.code ++ b2 (orCode absentRecipe l.recipe)
    ++ b1 l.state.code ++ b1 l.segmentsUsed ++ b1 snapshot.length
    ++ (List.range 3).flatMap fun i => ((snapshot[i]?).map Component.bytes).getD [0, 0, 0, 0]

/-- An order as ORDER GET returns it: a 15-byte header and its lines (R197). -/
def Order.bytes (place : Nat) (o : Order) : List Byte :=
  b4 o.orderNo ++ b4 o.card ++ b1 (orCode 0xFF o.bayPref) ++ b1 o.state.code ++ b1 (orCode 0xFF (o.bay.map (·.val)))
    ++ b1 (orCode 0xFF (o.noteSlot.map (·.val))) ++ b2 place ++ b1 o.lines.length ++ o.lines.flatMap Line.bytes

/-- The place of an order in the post sequence, counted from 1 (R197). -/
def State.postPlace (s : State) (orderNo : Nat) : Nat := s.orders.findIdx (·.orderNo == orderNo) + 1

/-- A request that names an order: its shape and NOT_FOUND (R21, R24, R42). -/
def onOrder (b : List Byte) (s : State) (f : Order → State × Answer) : State × Answer :=
  if b.length ≠ 4 then (s, .refuse .malformed)
  else match s.order? (u32 b 0) with
    | none => (s, .refuse .notFound)
    | some o => f o

/-- ORDER GET (R21, R197). -/
def orderGet (b : List Byte) (s : State) : State × Answer :=
  onOrder b s fun o => (s, .ok (o.bytes (s.postPlace o.orderNo)))

/-! ## Lines -/

/-- The state of a line after a segment of it ends (R27). -/
def Line.afterEnd (counted trimmed : Bool) (cause : EndCause) (l : Line) : LineState :=
  let short : LineState := if l.segmentsUsed = Config.maxSegments then .spent else .part
  if !counted then (if l.segmentsUsed = 0 then .opened else .part)
  else match cause with
    | .closed => if trimmed then short else .filled
    | .overfill => .spent
    | _ => short

/-- What a line has delivered on its basis, from its note line (R58). -/
def State.delivered (s : State) (orderNo : Nat) (l : Line) : Nat :=
  match s.noteLine? orderNo l.compartment, l.basis with
  | none, _ => 0
  | some n, .gross => n.gross
  | some n, .net => n.net

/-- A line's remainder in millilitres; below 0 it is taken as 0 (R58). -/
def State.remainder (s : State) (orderNo : Nat) (l : Line) : Nat := l.presetL * 1000 - s.delivered orderNo l

/-- A line in OPEN or PART (R48). -/
def Line.loadable (l : Line) : Bool := l.state == .opened || l.state == .part

/-- A line in FILLED or SPENT (R28). -/
def Line.finished (l : Line) : Bool := l.state == .filled || l.state == .spent

/-- The order bound at a bay. -/
def State.boundOrder? (s : State) (b : BayId) : Option Order := (s.bay b).boundOrder.bind s.order?

/-- The close of a bay's order is due: every line is FILLED or SPENT and no segment remains (R28). -/
def State.closeDue (s : State) (b : BayId) : Bool :=
  (s.boundOrder? b).any (fun o => o.lines.all Line.finished) && !s.bayBusy b

/-! ## Selection and bind -/

/-- The order that a bay selects for a card in STANDALONE: the oldest that is POSTED, for the card, and for no other bay (R25). -/
def State.selectOrder (s : State) (card : Nat) (b : BayId) : Option Order :=
  s.orders.find? fun o =>
    o.state == .posted && o.card == card && (o.bayPref == none || o.bayPref == some b.val)

/-! ## Close and revert -/

/-- Remove an order from the table (R21). -/
def State.removeOrder (orderNo : Nat) (s : State) : State :=
  { s with orders := s.orders.filter fun o => o.orderNo != orderNo }

/-- A bay is freed at the end of its visit: card and bound order are cleared, the bay enters CLOSED if close pending is
set and IDLE otherwise, close pending is cleared, and the panel is prompted DONE (R28 step 5, R39, R50). -/
def State.freeBay (b : BayId) (serial : Nat) (s : State) : State :=
  let st : BayState := if (s.bay b).closePending then .closed else .idle
  ((s.modBay b fun x =>
    { x with card := none, boundOrder := none, closePending := false, holdWindow := none, cardIdleTimer := none
    }).setBayState b st).prompt b (.done serial)

/-- Order close at a bay (R28); a close taken at warm restart marks the note RESTART. -/
def State.closeOrder (b : BayId) (byRestart : Bool) (s : State) : State :=
  match s.boundOrder? b with
  | none => s
  | some o =>
    let s1 := (s.modBay b fun x => { x with holdWindow := none, cardIdleTimer := none }).releaseWaiting b
    let r := s1.settleNote o byRestart
    ((r.1.unbindPermit o.card).removeOrder o.orderNo).freeBay b r.2

/-- Revert of a BOUND order: POSTED again with no bay, its permit unbound, its bay freed (R26). -/
def State.revertOrder (b : BayId) (s : State) : State :=
  match s.boundOrder? b with
  | none => s
  | some o =>
    ((s.modOrder o.orderNo fun x => { x with state := .posted, bay := none }).unbindPermit o.card).freeBay b 0

/-- The removal of a BOUND order by ORDER CANCEL (R24). -/
def State.cancelBound (b : BayId) (o : Order) (s : State) : State :=
  ((s.unbindPermit o.card).removeOrder o.orderNo).freeBay b 0

/-- ORDER CANCEL (R24). -/
def orderCancel (b : List Byte) (s : State) : State × Answer :=
  onOrder b s fun o =>
    match o.state with
    | .posted => (s.removeOrder o.orderNo, .ok [])
    | .loading => (s, .wrongState none)
    | .bound =>
      match o.bay with
      | none => (s.removeOrder o.orderNo, .ok [])
      | some bay => (s.cancelBound bay o, .ok [])

/-! ## The CARDED entry -/

/-- The CARDED entry (R38). -/
def State.cardedEntry (b : BayId) (s : State) : State :=
  let x := s.bay b
  if s.closeDue b then s.closeOrder b false
  else if !x.inputs.estop || !x.inputs.overfill then (s.setBayState b .tripped).prompt b .tripped
  else if !x.permitted then
    ((s.modBay b fun y => { y with holdWindow := none }).setBayState b .hold).prompt b (.hold 0)
  else
    ((s.modBay b fun y => { y with cardIdleTimer := some Config.cardIdleMs }).setBayState b .carded).prompt b
      (.select (((s.boundOrder? b).map fun o => (o.lines.filter Line.loadable).length).getD 0))

/-- The bay binds an order for a card whose permit passes (R11, R26, R33, R35): the permit's reason when it refuses. -/
def State.bindOrder (b : BayId) (card orderNo : Nat) (s : State) : Except Reason State :=
  match s.bindPermit card orderNo with
  | .error r => .error r
  | .ok s1 =>
    .ok ((((s1.modOrder orderNo fun o => { o with state := .bound, bay := some b }).modBay b fun x =>
      { x with card := some card, boundOrder := some orderNo }).prompt b (.welcome orderNo)).cardedEntry b)

end Sys2Proof.Machine
end

