-- ==== Sys2Proof/Machine/Profiles.lean ====
section
/-! DEFINITION. The profile cache: matching and lookup (R104, R106), recency (R105), pins (R108), learning (R72), wants
(R109, R110), loading (R111..R113), dropping and reading (R114, R115). -/

namespace Sys2Proof.Machine

/-! ## Matching and recency -/

/-- An entry matches a meter and a product (R104). -/
def Entry.matchesProduct (e : Entry) (meter product : Nat) : Bool :=
  e.meter == meter && product / 10 ^ e.span == e.base / 10 ^ e.span

/-- The lookup: the matching, non-dropping entry of the smallest span, or none for a miss (R104). -/
def Cache.lookup (c : Cache) (meter product : Nat) : Option EntryId :=
  [0, 1, 2, 3].findSome? fun span =>
    allEntries.find? fun e => c.entries[e].any fun x => x.matchesProduct meter product && !x.dropping && x.span == span

/-- Move an entry to the front of the recency list (R105). -/
def Cache.toFront (e : EntryId) (c : Cache) : Cache := { c with recency := e :: c.recency.filter (· != e) }

/-- Remove an entry: the slot becomes invalid and leaves the recency list (R105, R108). -/
def State.dropEntry (e : EntryId) (s : State) : State :=
  let s' := s.setEntry e none
  { s' with cache := { s'.cache with recency := s'.cache.recency.filter (· != e) } }

/-- Pin an entry to an arm's segment, which copies its calibration serial (R106, R112). -/
def State.pin (a : ArmId) (e : EntryId) (s : State) : State :=
  (s.modEntry e fun x => { x with pinCount := 1 }).modSeg a fun g =>
    { g with entry := some e, calSerial := (s.entry e).map (·.calSerial) }

/-- A hit: the entry is pinned and moves to the front (R106). -/
def State.hit (a : ArmId) (e : EntryId) (s : State) : State :=
  let s' := s.pin a e
  { s' with cache := s'.cache.toFront e }

/-- Release the pin of an entry; a dropping entry is removed (R108). -/
def State.unpin (e : EntryId) (s : State) : State :=
  match s.entry e with
  | none => s
  | some x => if x.dropping then s.dropEntry e else s.modEntry e fun y => { y with pinCount := 0 }

/-- The learned close advance (R72). -/
def learnedAdvance (old postClose : Nat) : Nat := min Config.maxCloseAdvance ((3 * old + postClose) / 4)

/-! ## Wants -/

/-- Place a want for an arm at the end of the list and start its segment's want timer (R61, R109). -/
def State.placeWant (a : ArmId) (product : Nat) (s : State) : State :=
  (s.setWants (s.cache.wants ++ [⟨a, a.val, product, s.clock.minute⟩])).modSeg a fun g =>
    { g with wantTimer := some Config.wantMs }

/-- Remove an arm's want, if it has one (R109). -/
def State.removeWant (a : ArmId) (s : State) : State :=
  if s.cache.wants.any fun w => w.arm == a then s.setWants (s.cache.wants.filter fun w => w.arm != a) else s

/-- WANT LIST (R110, R195). -/
def wantList (b : List Byte) (s : State) : State × Answer :=
  if b.length ≠ 0 then (s, .refuse .malformed)
  else (s, .ok (b1 s.cache.wants.length ++ s.cache.wants.flatMap fun w =>
    b1 w.arm.val ++ b1 w.meter ++ b2 w.product ++ b2 w.minute ++ b1 (secondsLeft ((s.seg? w.arm).bind (·.wantTimer)))))

/-! ## Loading -/

/-- The fields of a PROFILE LOAD body (R198), before validation. -/
structure ProfileBody where
  meter : Nat
  base : Nat
  span : Nat
  priority : Nat
  kn : Nat
  alpha : Nat
  lowStart : Nat
  slowStop : Nat
  closeAdvance : Nat
  overrunTol : Nat
  calSerial : Nat
  curve : List CurvePoint
  deriving DecidableEq, Repr

/-- Bytes 0 to 29 + 6k of the profile layout (R198). -/
def readProfileBody (b : List Byte) : ProfileBody where
  meter := u8 b 0
  base := u16 b 1
  span := u8 b 3
  priority := u8 b 4
  kn := u32 b 5
  alpha := u16 b 9
  lowStart := u32 b 11
  slowStop := u32 b 15
  closeAdvance := u32 b 19
  overrunTol := u32 b 23
  calSerial := u16 b 27
  curve := (List.range (u8 b 29)).map fun j => ⟨u16 b (30 + 6 * j), u32 b (32 + 6 * j)⟩

/-- The flows of a curve ascend strictly (R103). -/
def ascending : List CurvePoint → Bool
  | [] => true
  | [_] => true
  | x :: y :: rest => x.q < y.q && ascending (y :: rest)

/-- The validation of R111. -/
def ProfileBody.valid (p : ProfileBody) : Bool :=
  p.meter ≤ 23 && p.span ≤ 3 && 1 ≤ p.base && p.base ≤ 9999 && p.base % 10 ^ p.span == 0 && p.priority ≤ 2
    && 1000 ≤ p.kn && p.kn ≤ 2000000 && 2 ≤ p.curve.length && p.curve.length ≤ 6
    && p.curve.all (fun c => c.q ≤ 9999 && 90000 ≤ c.mf && c.mf ≤ 110000) && ascending p.curve
    && p.alpha ≤ 2500 && p.lowStart ≤ 2000000 && p.slowStop ≤ 2000000 && p.closeAdvance ≤ 200000
    && p.overrunTol ≤ 1000000

/-- The priority a code stands for (R198). -/
def priorityOf (code : Nat) : Priority := if code = 0 then .low else if code = 1 then .medium else .high

/-- The entry that a body loads, with a pin count (R112). -/
def ProfileBody.entry (p : ProfileBody) (pinCount : Nat) : Entry where
  meter := p.meter
  base := p.base
  span := p.span
  priority := priorityOf p.priority
  kn := p.kn
  curve := p.curve
  alpha := p.alpha
  lowStart := p.lowStart
  slowStop := p.slowStop
  closeAdvance := p.closeAdvance
  overrunTol := p.overrunTol
  calSerial := p.calSerial
  pinCount := pinCount
  dropping := false

/-- An entry has a tag (R103). -/
def Entry.hasTag (e : Entry) (meter base span : Nat) : Bool := e.meter == meter && e.base == base && e.span == span

/-- The valid entry with a tag and a dropping flag. -/
def Cache.tagged (c : Cache) (meter base span : Nat) (dropping : Bool) : Option EntryId :=
  allEntries.find? fun e => c.entries[e].any fun x => x.hasTag meter base span && x.dropping == dropping

/-- The victim: of the unpinned entries of the lowest priority among them, the one furthest from the front (R112). -/
def Cache.victim (c : Cache) : Option EntryId :=
  [Priority.low, .medium, .high].findSome? fun pr =>
    c.recency.reverse.find? fun e => c.entries[e].any fun x => x.pinCount == 0 && x.priority == pr

/-- A segment under an in-place overwrite of its pinned entry: the new serial is recorded, and a different one sets
MIXED_CAL (R113). -/
def Segment.reload (calSerial : Nat) (g : Segment) : Segment :=
  { g with calSerial := some calSerial, mixedCal := g.mixedCal || g.calSerial != some calSerial }

/-- The arms whose segments pin an entry. -/
def State.pinners (s : State) (e : EntryId) : List ArmId :=
  allArms.filter fun a => (s.seg? a).any fun g => g.entry == some e

/-- Where a load puts its entry (R112). -/
inductive Placement where
  | inPlace (e : EntryId)
  | freeSlot (e : EntryId)
  | evicted (e : EntryId)
  | pinned
  deriving DecidableEq, Repr

/-- The placement of a load of a tag (R112). -/
def Cache.placement (c : Cache) (meter base span : Nat) : Placement :=
  match c.tagged meter base span false with
  | some e => .inPlace e
  | none =>
    match allEntries.find? fun e => c.entries[e].isNone with
    | some e => .freeSlot e
    | none =>
      match c.victim with
      | some e => .evicted e
      | none => .pinned

/-- Write an entry into a slot and move it to the front (R105, R112). -/
def State.writeEntry (e : EntryId) (x : Entry) (s : State) : State :=
  let s' := s.setEntry e (some x)
  { s' with cache := s'.cache.toFront e }

/-- Satisfy the oldest want that an entry matches: it is pinned to the want's segment, the want timer stops and the want
leaves the list. Answers the arm, whose segment goes on to AWAIT_INJECTOR (R112, R61). -/
def State.satisfyWant (e : EntryId) (s : State) : State × Option ArmId :=
  match s.cache.wants.find? fun w => (s.entry e).any fun x => x.matchesProduct w.meter w.product with
  | none => (s, none)
  | some w =>
    (((s.pin w.arm e).removeWant w.arm).modSeg w.arm fun g => { g with wantTimer := none, phase := .awaitInjector },
      some w.arm)

/-- The reply of a PROFILE LOAD (R195): result word, slot, victim tag, satisfied arm. -/
def loadReply (w : Word) (e : EntryId) (victim : Option Entry) (arm : Option ArmId) : List Byte :=
  b1 w.code ++ b1 e.val
    ++ b1 (orCode 0xFF (victim.map (·.meter))) ++ b2 (orCode 0xFFFF (victim.map (·.base)))
    ++ b1 (orCode 0xFF (victim.map (·.span))) ++ b1 (orCode 0xFF (arm.map (·.val)))

/-- PROFILE LOAD of a valid profile: the state, the answer, and the arm whose want was satisfied (R112, R113). -/
def loadProfile (p : ProfileBody) (s : State) : State × Answer × Option ArmId :=
  match s.cache.placement p.meter p.base p.span with
  | .inPlace e =>
    let s1 := s.writeEntry e (p.entry (((s.entry e).map (·.pinCount)).getD 0))
    let s2 := (s.pinners e).foldl (fun t a => t.modSeg a (Segment.reload p.calSerial)) s1
    let r := s2.satisfyWant e
    (r.1, .ok (loadReply .inPlace e none r.2), r.2)
  | .freeSlot e =>
    let r := (s.writeEntry e (p.entry 0)).satisfyWant e
    (r.1, .ok (loadReply .freeSlot e none r.2), r.2)
  | .evicted e =>
    let r := (s.writeEntry e (p.entry 0)).satisfyWant e
    (r.1, .ok (loadReply .evicted e (s.entry e) r.2), r.2)
  | .pinned => (s, .refuse .pinned, none)

/-- PROFILE LOAD (R111, R112): the shape 30 + 6k, the validation, the placement. -/
def profileLoad (b : List Byte) (s : State) : State × Answer × Option ArmId :=
  if b.length < 30 || b.length ≠ 30 + 6 * u8 b 29 then (s, .refuse .malformed, none)
  else if !(readProfileBody b).valid then (s, .refuse .badValue, none)
  else loadProfile (readProfileBody b) s

/-! ## Dropping and reading -/

/-- A request that carries a tag: its shape and the validation of meter and span (R114, R115). -/
def onTag (b : List Byte) (s : State) (f : Nat → Nat → Nat → State × Answer) : State × Answer :=
  if b.length ≠ 4 then (s, .refuse .malformed)
  else if 23 < u8 b 0 || 3 < u8 b 3 then (s, .refuse .badValue)
  else f (u8 b 0) (u16 b 1) (u8 b 3)

/-- PROFILE DROP (R114). -/
def profileDrop (b : List Byte) (s : State) : State × Answer :=
  onTag b s fun meter base span =>
    match s.cache.tagged meter base span false with
    | some e =>
      if (s.entry e).any fun x => x.pinCount == 0 then (s.dropEntry e, .ok (b1 Word.removed.code ++ b1 e.val))
      else (s.modEntry e fun x => { x with dropping := true }, .ok (b1 Word.dropping.code ++ b1 e.val))
    | none =>
      match s.cache.tagged meter base span true with
      | some e => (s, .ok (b1 Word.dropping.code ++ b1 e.val))
      | none => (s, .refuse .notFound)

/-- The arm whose segment pins an entry, with its absent code (R115). -/
def State.pinningArm (s : State) (e : EntryId) : Nat := orCode 0xFF ((s.pinners e).head?.map (·.val))

/-- The profile record of an entry, bytes 0 to 29 + 6k (R198). -/
def Entry.bytes (x : Entry) : List Byte :=
  b1 x.meter ++ b2 x.base ++ b1 x.span ++ b1 x.priority.code ++ b4 x.kn ++ b2 x.alpha ++ b4 x.lowStart ++ b4 x.slowStop
    ++ b4 x.closeAdvance ++ b4 x.overrunTol ++ b2 x.calSerial ++ b1 x.curve.length
    ++ x.curve.flatMap fun c => b2 c.q ++ b4 c.mf

/-- PROFILE READ (R115, R198). -/
def profileRead (b : List Byte) (s : State) : State × Answer :=
  onTag b s fun meter base span =>
    match (s.cache.tagged meter base span false).or (s.cache.tagged meter base span true) with
    | none => (s, .refuse .notFound)
    | some e =>
      match s.entry e with
      | none => (s, .refuse .notFound)
      | some x =>
        (s, .ok (x.bytes ++ b1 e.val ++ b1 x.pinCount ++ flag1 x.dropping ++ b1 (s.cache.recency.idxOf e + 1)
          ++ b1 (s.pinningArm e)))

/-- An entry in the reply of PROFILE LIST (R195). -/
def State.listedEntry (s : State) (e : EntryId) : List Byte :=
  match s.entry e with
  | none => []
  | some x =>
    b1 e.val ++ b1 x.meter ++ b2 x.base ++ b1 x.span ++ b1 x.priority.code ++ b2 x.calSerial ++ b4 x.closeAdvance
      ++ b1 x.pinCount ++ b1 (s.pinningArm e) ++ flag1 x.dropping

/-- PROFILE LIST (R115, R195): every valid entry in recency order. -/
def profileList (b : List Byte) (s : State) : State × Answer :=
  if b.length ≠ 0 then (s, .refuse .malformed)
  else (s, .ok (b1 s.cache.recency.length ++ s.cache.recency.flatMap s.listedEntry))

end Sys2Proof.Machine
end

