-- ==== Sys2Proof/Machine/Arms.lean ====
section
/-! DEFINITION. The arm controllers: acceptance of a start with its ten checks and its effects (R56..R59, R12, R14, R15,
R61, R106, R109, R124), the stop of an arm (R65, R70, R77, R40) and the arm requests (R52, R77, R78, R195). -/

namespace Sys2Proof.Machine

/-! ## Acceptance -/

/-- A segment start: who asks for which line on which arm (R56). -/
structure Start where
  bay : BayId
  arm : ArmId
  compartment : Nat
  origin : Origin
  deriving DecidableEq, Repr

/-- Step 1: the bay is CARDED or LOADING; the reason differs with the state (R56). -/
def bayTests (st : BayState) : List (Bool × Reason) :=
  [(st != .hold && st != .tripped, .bayHold), (st == .carded || st == .loading, .notCarded)]

/-- Step 3: the arm may be taken by a start (R57). -/
def Arm.takeTests (x : Arm) (st : Start) : List (Bool × Reason) :=
  match x.status with
  | .idle => []
  | .segment _ => [(false, .armBusy)]
  | .resumeWait _ _ => [(x.claim == some st.bay && st.origin == .resume, .armBusy)]
  | .fault => [(false, .armFault)]

/-- The checks of R56 from step 4 on, for the bay's bound order. -/
def State.lineTests (s : State) (st : Start) (o : Order) : List (Bool × Reason) :=
  match o.line? st.compartment with
  | none => [(false, .noLine)]
  | some l =>
    [(l.state != .active, .lineBusy),
     (l.loadable && decide (0 < s.remainder o.orderNo l), .lineDone),
     ((s.arm st.arm).products.contains l.product, .wrongArm)]
    ++ (match s.permit? o.card with
        | none => [(false, .permitStopped)]
        | some p => startTests p l.product s.clock.day)
    ++ [(!s.settings.cal, .calibrating)]
    ++ noteTests o s.notes
    ++ [(((s.permit? o.card).bind fun p => p.reservation (s.remainder o.orderNo l)).isSome, .allowance)]

/-- The ten checks of R56 in order. -/
def State.acceptanceTests (s : State) (st : Start) : List (Bool × Reason) :=
  bayTests (s.bay st.bay).state
    ++ [((s.arm st.arm).reach.contains st.bay && !(s.arm st.arm).products.isEmpty, .wrongArm)]
    ++ (s.arm st.arm).takeTests st
    ++ (match s.boundOrder? st.bay with
        | none => [(false, .noLine)]
        | some o => s.lineTests st o)

/-- The snapshot a line holds after an acceptance (R124). -/
def State.snapshotFor (s : State) (l : Line) : Option (List Component) :=
  l.snapshot.or (l.recipe.bind fun id => (s.recipe? id).map (·.components))

/-- The lookup of a segment that enters AWAIT_PROFILE: a hit pins and goes on to AWAIT_INJECTOR, a miss places a want
(R61, R106, R109). -/
def State.enterProfile (a : ArmId) (product : Nat) (s : State) : State × List Job :=
  match s.cache.lookup a.val product with
  | some e => ((s.hit a e).modSeg a fun g => { g with phase := .awaitInjector }, [.enterInjector a])
  | none => (s.placeWant a product, [])

/-- The bay's and the order's part of an accepted start (R59 step 5, R40), with the LOADING prompt (log 9). -/
def State.bayAccepts (st : Start) (orderNo : Nat) (s : State) : State :=
  let s1 := s.modOrder orderNo fun o => { o with state := .loading }
  let s2 :=
    if (s1.bay st.bay).state = .carded then
      (s1.modBay st.bay fun x => { x with cardIdleTimer := none }).setBayState st.bay .loading
    else s1
  s2.prompt st.bay (.loading st.arm)

/-- The effects of an acceptance, steps 1 to 5 (R59). -/
def State.acceptStart (st : Start) (o : Order) (l : Line) (r : Reservation) (s : State) : State :=
  let s1 := (s.modArm st.arm fun x => { x with claim := some st.bay }).setArmStatus st.arm
    (.segment (freshSegment o.orderNo l.compartment st.bay st.origin r.presetMl r.reservedL r.trimmed))
  let s2 := s1.reserveNote o st.bay
  let s3 := s2.modPermit o.card fun p => { p with reserved := p.reserved + r.reservedL }
  let s4 := s3.modLine o.orderNo l.compartment fun x => { x with state := .active, snapshot := s3.snapshotFor x }
  s4.bayAccepts st o.orderNo

/-- The result of offering a start to acceptance: the state, the reason when it is refused, the parts that follow. -/
structure Offered where
  state : State
  refusal : Option Reason
  jobs : List Job
  deriving DecidableEq, Repr

/-- An ARM_BUSY refusal marks the arm with the refused bay (R57); other refusals change nothing. -/
def State.refuseStart (st : Start) (r : Reason) (s : State) : State :=
  if r = .armBusy then s.occurBusy st.arm st.bay else s

/-- Offer a start to acceptance at its arm (R56, R59). -/
def State.offerStart (st : Start) (s : State) : Offered :=
  match firstFailure (s.acceptanceTests st) with
  | some r => ⟨s.refuseStart st r, some r, []⟩
  | none =>
    match s.boundOrder? st.bay with
    | none => ⟨s, some .noLine, []⟩
    | some o =>
      match o.line? st.compartment with
      | none => ⟨s, some .noLine, []⟩
      | some l =>
        match (s.permit? o.card).bind fun p => p.reservation (s.remainder o.orderNo l) with
        | none => ⟨s, some .allowance, []⟩
        | some r =>
          let e := (s.acceptStart st o l r).enterProfile st.arm l.product
          ⟨e.1, none, e.2⟩

/-- The arm holds a segment of the bay's order (R40, R60). -/
def State.armServes (s : State) (a : ArmId) (b : BayId) : Bool := (s.seg? a).any fun g => g.bay == b

/-! ## Stops -/

/-- Stop an arm's segment: in acquisition it ends at once, otherwise it takes the close command of its phase (R65, R70). -/
def State.stopSegment (a : ArmId) (cause : EndCause) (s : State) : State × List Job :=
  match s.seg? a with
  | none => (s, [])
  | some g => if g.phase.acquiring then (s, [.endSegment a cause]) else (s.modSeg a (Segment.shut cause), [])

/-- Cancel the wait of an arm in RESUME_WAIT: it is released, and its bay prompts STOPPED (R77, R40). -/
def State.cancelWait (a : ArmId) (s : State) : State :=
  match (s.arm a).claim with
  | none => s.releaseArm a
  | some b => (s.releaseArm a).prompt b (.stopped a .stopped)

/-! ## Requests -/

/-- The reach that two bay numbers name: one bay, or two adjacent bays in either order, kept ascending (R52; log 20). -/
def readReach : List Nat → Option (List BayId)
  | [x] => (bayOf x).map fun b => [b]
  | [x, y] =>
    match bayOf x, bayOf y with
    | some b, some c => if x + 1 = y then some [b, c] else if y + 1 = x then some [c, b] else none
    | _, _ => none
  | _ => none

/-- The validation of a product set (R52). -/
def productsValid (ps : List Nat) : Bool :=
  1 ≤ ps.length && ps.length ≤ 4 && decide ps.Nodup && ps.all fun p => 1 ≤ p && p ≤ 9999

/-- ARM SET of a valid configuration (R52). The product set is kept, and returned, in the order sent: DESIGN CHOICE (log 20). -/
def setArm (a : ArmId) (reach : List BayId) (products : List Nat) (s : State) : State × Answer :=
  if (s.arm a).status = .idle && (s.arm a).claim = none then
    (s.modArm a fun x => { x with reach := reach, products := products }, .ok [])
  else (s, .refuse .inUse)

/-- ARM SET (R52): arm, a count and that many bays, a count and that many product codes. -/
def armSet (b : List Byte) (s : State) : State × Answer :=
  let n := u8 b 1
  let m := u8 b (2 + n)
  if b.length < 3 + n || b.length ≠ 3 + n + 2 * m then (s, .refuse .malformed)
  else
    let products := u16s b (3 + n) m
    match armOf (u8 b 0), readReach (u8s b 2 n) with
    | some a, some reach => if productsValid products then setArm a reach products s else (s, .refuse .badValue)
    | _, _ => (s, .refuse .badValue)

/-- The absent code of a temperature (R195). -/
def absentTemp : List Byte := [0x80, 0x00]

/-- The period record in the reply of ARM GET, 0 when it is absent (R98, R195). -/
def periodBytes : Option PeriodRecord → List Byte
  | none => List.replicate 29 0
  | some p =>
    b1 1 ++ b2 p.nA ++ b2 p.nB ++ b4 p.iv ++ b2 p.q ++ b4 p.mf.toNat ++ (p.temp.map i2).getD absentTemp
      ++ b4 p.vcf.toNat ++ b4 p.gv ++ b4 p.nv

/-- A segment in the reply of ARM GET (R195). -/
def Segment.bytes (g : Segment) : List Byte :=
  b4 g.orderNo ++ b1 g.compartment ++ b1 g.bay.val ++ b1 g.origin.code ++ b1 g.phase.code ++ flag1 g.counted
    ++ b4 g.presetMl ++ b4 g.reservation ++ b4 g.pulseTotalA ++ b4 g.pulseTotalB ++ b4 g.indicated ++ b4 g.gross
    ++ b4 g.net ++ b1 g.stage.code ++ flag1 g.cap ++ b2 g.flagWord ++ b1 (orCode 0xFF (g.endCause.map EndCause.code))
    ++ b4 g.fidelityCount ++ b2 g.holdAge ++ b1 g.zeroRun ++ b1 g.closeCounter ++ b4 g.postClose ++ periodBytes g.period

/-- The last end in the reply of ARM GET (R195). When it is absent the order number has its absent code 0 (R195), and the
other fields are sent as 0: DESIGN CHOICE (log 29). -/
def lastEndBytes : Option LastEnd → List Byte
  | none => List.replicate 16 0
  | some e =>
    b4 e.orderNo ++ b1 e.compartment ++ b1 e.origin.code ++ b1 e.cause.code ++ flag1 e.counted ++ b4 e.gross ++ b4 e.net

/-- The wait line in the reply of ARM GET, 0 when absent (R195). -/
def Arm.waitBytes (x : Arm) : List Byte :=
  match x.status with
  | .resumeWait o c => b4 o ++ b1 c
  | .idle => List.replicate 5 0
  | .segment _ => List.replicate 5 0
  | .fault => List.replicate 5 0

/-- An arm record as ARM GET returns it (R52, R195). -/
def Arm.bytes (x : Arm) : List Byte :=
  b1 x.reach.length ++ (padTo 2 0xFF (x.reach.map (·.val))).flatMap b1
    ++ b1 x.products.length ++ (padTo 4 0 x.products).flatMap b2
    ++ b1 x.status.code ++ b1 (orCode 0xFF (x.claim.map (·.val))) ++ x.waitBytes ++ lastEndBytes x.lastEnd
    ++ flag1 x.seg?.isSome ++ (x.seg?.map Segment.bytes).getD []

/-- A request that names an arm: its shape and BAD_VALUE (R52, R77, R78). -/
def onArm (b : List Byte) (s : State) (f : ArmId → State × Answer × List Job) : State × Answer × List Job :=
  if b.length ≠ 1 then (s, .refuse .malformed, [])
  else match armOf (u8 b 0) with
    | none => (s, .refuse .badValue, [])
    | some a => f a

/-- ARM GET (R52). -/
def armGet (b : List Byte) (s : State) : State × Answer × List Job := onArm b s fun a => (s, .ok (s.arm a).bytes, [])

/-- ARM START (R60): BAD_VALUE, IN_USE for the bay's own segment, otherwise acceptance with origin HOST. -/
def armStart (b : List Byte) (s : State) : State × Answer × List Job :=
  if b.length ≠ 3 then (s, .refuse .malformed, [])
  else match bayOf (u8 b 0), armOf (u8 b 1) with
    | some bay, some a =>
      if !compartmentValid (u8 b 2) then (s, .refuse .badValue, [])
      else if s.armServes a bay then (s, .refuse .inUse, [])
      else
        let r := s.offerStart ⟨bay, a, u8 b 2, .host⟩
        match r.refusal with
        | none => (r.state, .ok [], r.jobs)
        | some reason => (r.state, .wrongState (some reason), [])
    | _, _ => (s, .refuse .badValue, [])

/-- ARM STOP (R77). -/
def armStop (b : List Byte) (s : State) : State × Answer × List Job :=
  onArm b s fun a =>
    match (s.arm a).status with
    | .segment _ => ((s.stopSegment a .stopped).1, .ok [], (s.stopSegment a .stopped).2)
    | .resumeWait _ _ => (s.cancelWait a, .ok [], [])
    | .idle => (s, .wrongState none, [])
    | .fault => (s, .wrongState none, [])

/-- ARM CLEAR (R78). -/
def armClear (b : List Byte) (s : State) : State × Answer × List Job :=
  onArm b s fun a =>
    match (s.arm a).status with
    | .fault => (s.setArmStatus a .idle, .ok [], [])
    | .idle => (s, .wrongState none, [])
    | .segment _ => (s, .wrongState none, [])
    | .resumeWait _ _ => (s, .wrongState none, [])

end Sys2Proof.Machine
end

