-- ==== Sys2Proof/Machine/Cascade.lean ====
section
/-! DEFINITION. The parts of an event that follow one from another: the steps of a segment end (R72..R74), the bay's part
of it (R41), resumes (R45), the end of acquisition (R64), grants (R131), and the run that takes them in order (R141). -/

namespace Sys2Proof.Machine

/-! ## The end steps at the arm -/

/-- Step 1 of the end (R74): the timers stop, the want and the queue places go. -/
def State.endWaits (a : ArmId) (s : State) : State :=
  ((s.removeWant a).leaveQueues a).modSeg a fun g => { g with wantTimer := none, injectorTimer := none, periodTimer := none }

/-- The learning of a CLOSED end, written into the pinned entry (R72). -/
def State.learn (g : Segment) (cause : EndCause) (s : State) : State :=
  match cause, g.entry with
  | .closed, some e => s.modEntry e fun x => { x with closeAdvance := learnedAdvance x.closeAdvance g.postClose }
  | _, _ => s

/-- The overrun test of a counted segment, against the pinned entry's tolerance (R73). -/
def Segment.overran (g : Segment) (basis : Basis) (tolerance : Nat) : Bool :=
  g.counted && decide (g.presetMl + tolerance < g.delivered basis)

/-- Step 2 of the end: the write-backs of a counted segment (R153, R143). -/
def State.writeBack (g : Segment) (l : Line) (cause : EndCause) (s : State) : State :=
  if g.counted then
    s.modNote g.orderNo (Note.modLine g.compartment fun n =>
      additiveWriteBack g s.injector 1 (l.snapshot.getD []) (n.writeBack g cause))
  else s

/-- The strike of R18 is taken for a counted OVERFILL end. -/
def takesStrike (g : Segment) (cause : EndCause) : Bool := g.counted && cause == .overfill

/-- Steps 2 to 4 of the end, at the note, the order line and the permit (R74). -/
def State.settleRecords (g : Segment) (cause : EndCause) (s : State) : State :=
  match s.order? g.orderNo with
  | none => s
  | some o =>
    match o.line? g.compartment with
    | none => s
    | some l =>
      ((s.writeBack g l cause).modLine g.orderNo g.compartment fun x =>
        { x with state := x.afterEnd g.counted g.trimmed cause }).modPermit o.card
          (Permit.charge g.reservation g.net (takesStrike g cause))

/-- Step 5 of the end: the pin is released, and the segment holds no entry from then on (R55, R108). -/
def State.releasePin (a : ArmId) (g : Segment) (s : State) : State :=
  match g.entry with
  | none => s
  | some e => (s.unpin e).modSeg a fun x => { x with entry := none }

/-- Steps 1 to 5 of the end of an arm's segment (R74). -/
def State.endSteps (a : ArmId) (cause : EndCause) (s : State) : State :=
  match s.seg? a with
  | none => s
  | some g =>
    let tolerance := ((s.segEntry? g).map (·.overrunTol)).getD 0
    let basis := ((s.segLine? g).map (·.basis)).getD .gross
    let g' := { g with overrun := g.overran basis tolerance }
    ((((s.endWaits a).learn g cause).modSeg a fun x => { x with overrun := g'.overrun }).settleRecords g' cause).releasePin a g'

/-- The bay keeps an arm waiting after a HOLD end: it is in HOLD with its window running, or in LOADING (R53, R74). -/
def Bay.keepsWaiting (x : Bay) : Bool :=
  match x.state with
  | .hold => x.holdWindow.isSome
  | .loading => true
  | _ => false

/-- The last end that a segment leaves on its arm (R51). -/
def Segment.lastEnd (g : Segment) (cause : EndCause) : LastEnd :=
  ⟨g.orderNo, g.compartment, g.origin, cause, g.counted, g.gross, g.net⟩

/-- Step 7 of the end (R74): the last end, the arm's next state and its claim; the period counters are discarded (R81). -/
def State.finishEnd (a : ArmId) (cause : EndCause) (s : State) : State :=
  match s.seg? a with
  | none => s
  | some g =>
    let s1 := (s.modArm a fun x => { x with lastEnd := some (g.lastEnd cause), counterA := 0, counterB := 0 }).occurEnded a
    match cause with
    | .leak => (s1.setArmStatus a .fault).clearClaim a
    | .hold =>
      if (s.bay g.bay).keepsWaiting then s1.setArmStatus a (.resumeWait g.orderNo g.compartment) else s1.releaseArm a
    | _ => s1.releaseArm a

/-- Steps 1 to 7 of the end with the grants held (R74, R141). -/
def State.endAtArm (a : ArmId) (cause : EndCause) (s : State) : State :=
  ((s.endSteps a cause).releaseClaims a).finishEnd a cause

/-- The bay of an arm's segment. -/
def State.segBay? (s : State) (a : ArmId) : Option BayId := (s.seg? a).map (·.bay)

/-! ## The end at the bay -/

/-- A bay with no segment left leaves TRIPPED when all four inputs are healthy (R47); otherwise it closes when due (R41). -/
def State.settleTripped (b : BayId) (s : State) : State :=
  if s.bayBusy b then s
  else if allHealthy (s.bay b).inputs then s.cardedEntry b
  else if s.closeDue b then s.closeOrder b false
  else s

/-- The end is taken at the bay (R41). -/
def State.bayEnd (b : BayId) (a : ArmId) (cause : EndCause) (s : State) : State × List Job :=
  let s1 := s.prompt b (.stopped a cause)
  match (s.bay b).state with
  | .loading => (s1, (if (s.arm a).waitsFor b then [.resume b a] else []) ++ [.settleBay b])
  | .hold => (if s1.closeDue b then s1.closeOrder b false else s1, [])
  | .tripped => (s1.settleTripped b, [])
  | .ending => (if s1.bayBusy b then s1 else s1.closeOrder b false, [])
  | .closed => (s1, [])
  | .idle => (s1, [])
  | .authorizing => (s1, [])
  | .carded => (s1, [])

/-- The bay's last step of an end at LOADING, or of a restoration: with no segment it takes the CARDED entry (R41, R45).
A bay that the end of a resumed segment has already brought to CARDED takes it again (log 10); a bay whose order closed
meanwhile has nothing to settle. -/
def State.settleBay (b : BayId) (s : State) : State :=
  if ((s.bay b).state = .loading || (s.bay b).state = .carded) && !s.bayBusy b then s.cardedEntry b else s

/-- A resume refused, or not offered: the arm is released and the panel is told (R45). -/
def State.resumeRefused (b : BayId) (a : ArmId) (r : Reason) (s : State) : State :=
  (s.releaseArm a).prompt b (.refused r)

/-- A resume offered to an arm that waits for the bay (R45, R76). -/
def State.resume (b : BayId) (a : ArmId) (s : State) : State × List Job :=
  match (s.arm a).status with
  | .resumeWait orderNo compartment =>
    if (s.line? orderNo compartment).any fun l => Config.maxSegments ≤ l.segmentsUsed then
      (s.resumeRefused b a .lineDone, [])
    else
      let r := s.offerStart ⟨b, a, compartment, .resume⟩
      match r.refusal with
      | none => (r.state, r.jobs)
      | some reason => (r.state.resumeRefused b a reason, [])
  | .idle => (s, [])
  | .segment _ => (s, [])
  | .fault => (s, [])

/-! ## The end of acquisition -/

/-- The segment reaches LOW_START and is counted (R64 steps 2 to 4, R152). -/
def State.countSegment (a : ArmId) (g : Segment) (l : Line) (s : State) : State :=
  let s1 := s.modLine g.orderNo g.compartment fun x => { x with segmentsUsed := x.segmentsUsed + 1 }
  let s2 := s1.modNote g.orderNo (Note.count l a)
  let s3 := s2.modSeg a fun x =>
    { x with counted := true, phase := .lowStart, zeroRun := 0, periodTimer := some Config.periodMs }
  s3.modArm a fun x => { x with counterA := 0, counterB := 0 }

/-- Acquisition is complete (R64): the note is opened and the segment counted, or it ends SERIAL_SPENT. -/
def State.completeAcquisition (a : ArmId) (s : State) : State × List Job :=
  match s.seg? a with
  | none => (s, [])
  | some g =>
    match s.segLine? g with
    | none => (s, [])
    | some l =>
      if s.openingSpent g.orderNo then (s, [.endSegment a .serialSpent])
      else ((s.openNote g.orderNo).countSegment a g l, [])

/-! ## The run -/

/-- One part of an event: the state after it, and the parts that follow from it (log 23). The claims of an ending segment
are released in component order: DESIGN CHOICE (log 27). -/
def doJob (j : Job) (s : State) : State × List Job :=
  match j with
  | .endSegment a cause =>
    match s.seg? a with
    | none => (s, [])
    | some g =>
      (s.endSteps a cause,
        g.claims.map (fun c => Job.releaseClaim a c.injector) ++ [.finishEnd a cause, .bayEnd g.bay a cause])
  | .endGrouped a cause =>
    match s.seg? a with
    | none => (s, [])
    | some g => (s.endAtArm a cause, [.bayEnd g.bay a cause])
  | .releaseClaim a i =>
    let s' := s.releaseClaim a i
    (s', if (s'.injector i).state = .idle then [.grant i] else [])
  | .finishEnd a cause => (s.finishEnd a cause, [])
  | .bayEnd b a cause => s.bayEnd b a cause
  | .settleBay b => (s.settleBay b, [])
  | .resume b a => s.resume b a
  | .enterInjector a => s.enterInjector a
  | .complete a => s.completeAcquisition a
  | .grant i => s.grant i

/-- Take the parts of an event one after the other; the parts that follow from one come before the parts behind it. -/
def runJobs : Nat → List Job → State → State
  | 0, _, s => s
  | _ + 1, [], s => s
  | n + 1, j :: js, s =>
    let r := doJob j s
    runJobs n (r.2 ++ js) r.1

/-- An event with the parts that follow from it (log 11). -/
def settle (r : State × List Job) : State := runJobs Config.eventParts r.2 r.1

/-! ## Ends of several segments in one event -/

/-- The injectors that arms' segments hold, in ascending number: their grants are held until the ends are taken (R141). -/
def State.heldInjectors (s : State) (arms : List ArmId) : List InjId :=
  allInjectors.filter fun j => arms.any fun a => (s.seg? a).any fun g => g.claims.any fun c => c.injector == j

/-- The grants of the injectors that arms' segments hold. -/
def State.heldGrants (s : State) (arms : List ArmId) : List Job := (s.heldInjectors arms).map .grant

/-- The ends of arms' segments in one event, each taken at its bay, and the held grants behind them (R141). -/
def State.groupEnds (s : State) (arms : List ArmId) (cause : EndCause) : List Job :=
  arms.map (fun a => Job.endGrouped a cause) ++ s.heldGrants arms

/-- The arms of a bay whose segments are in acquisition, in ascending number. -/
def State.acquiringArms (s : State) (b : BayId) : List ArmId :=
  (s.segArms b).filter fun a => (s.seg? a).any fun g => g.phase.acquiring

/-- Every segment of a bay takes a close, by its phase (R70, R44, R47). -/
def State.shutBay (b : BayId) (f : Segment → Segment) (s : State) : State :=
  (s.segArms b).foldl (fun t a => t.modSeg a f) s

end Sys2Proof.Machine
end

