-- ==== Sys2Proof/Machine/Metering.lean ====
section
/-! DEFINITION. Metering: the stages of a period (R84..R91), the accumulation (R92..R95, R98), the fault, phase, flow-end and
leak tests (R66..R68, R71), the pulse and sample inputs (R81, R82) and the arm timers (R61, R63, R66). -/

namespace Sys2Proof.Machine

/-! ## The stages of a period -/

/-- Fidelity: the count grows by the channels' difference when it is above 1 (R84). -/
def fidelity (nA nB count : Nat) : Nat :=
  let d := (nA - nB) + (nB - nA)
  if 1 < d then count + d else count

/-- A volume stage: the quotient and the residue of a numerator (R85, R88, R91). -/
def volumeStage (num divisor : Nat) : Nat × Nat := (num / divisor, num % divisor)

/-- Flow rate in lpm (R86). -/
def flowRate (iv : Nat) : Nat := min Config.maxFlow ((iv * 24 + 50) / 100)

/-- The meter factor at a flow, interpolated on the curve with truncation toward zero (R87). A curve has 2..6 points
(R111); the value without a point is never reached (log 17). -/
def meterFactor : List CurvePoint → Nat → Int
  | [], _ => 0
  | [p], _ => p.mf
  | p :: r :: rest, q =>
    if q ≤ p.q then p.mf
    else if q < r.q then p.mf + Int.tdiv (((r.mf : Int) - p.mf) * ((q : Int) - p.q)) ((r.q : Int) - p.q)
    else meterFactor (r :: rest) q

/-- The volume correction factor at a temperature, with its clamps (R90). -/
def correction (alpha : Nat) (t tref : Int) : Int :=
  max Config.vcfMin (min Config.vcfMax (1000000 - nearestDiv (alpha * (t - tref)) 100))

/-- The latest sample, when it is valid: in range and fresh (R82). -/
def Arm.validSample (x : Arm) : Option Int :=
  match x.sample, x.freshness with
  | some v, some _ => if -5000 ≤ v && v ≤ 8000 then some v else none
  | _, _ => none

/-- The temperature that a period uses, none for an uncompensated period (R89). -/
def usedTemp (valid last : Option Int) : Option Int := valid.or last

/-- The values of one period for a segment (R84..R91, R98). -/
def Segment.period1 (g : Segment) (e : Entry) (x : Arm) (tref : Nat) : PeriodRecord :=
  let iv := (volumeStage (x.counterA * 1000000 + g.residueI) e.kn).1
  let q := flowRate iv
  let mf := meterFactor e.curve q
  let gv := (volumeStage (iv * mf.toNat + g.residueG) 100000).1
  let temp := usedTemp x.validSample g.lastTemp
  let vcf := (temp.map fun t => correction e.alpha t tref).getD 1000000
  { nA := x.counterA
    nB := x.counterB
    iv := iv
    q := q
    mf := mf
    temp := temp
    vcf := vcf
    gv := gv
    nv := (volumeStage (gv * vcf.toNat + g.residueN) 1000000).1 }

/-- The basis increment of a period (R92). -/
def PeriodRecord.onBasis (p : PeriodRecord) : Basis → Nat
  | .gross => p.gv
  | .net => p.nv

/-- The segment after the computation and accumulation of a period (R84..R94, R98) and the count of its zero-pulse run (R67).
The close command counts for the post-close volume when an earlier event recorded it (R94). -/
def Segment.accumulate (g : Segment) (e : Entry) (x : Arm) (p : PeriodRecord) (basis : Basis) : Segment :=
  { g with
    fidelityCount := fidelity p.nA p.nB g.fidelityCount
    residueI := (volumeStage (p.nA * 1000000 + g.residueI) e.kn).2
    residueG := (volumeStage (p.iv * p.mf.toNat + g.residueG) 100000).2
    residueN := (volumeStage (p.gv * p.vcf.toNat + g.residueN) 1000000).2
    lastTemp := usedTemp x.validSample g.lastTemp
    holdAge := match x.validSample, g.lastTemp with
      | some _, _ => 0
      | none, some _ => g.holdAge + 1
      | none, none => g.holdAge
    tempHeld := g.tempHeld || (x.validSample.isNone && g.lastTemp.isSome)
    uncompensated := g.uncompensated || p.temp.isNone
    pulseTotalA := satAdd Config.top32 g.pulseTotalA p.nA
    pulseTotalB := satAdd Config.top32 g.pulseTotalB p.nB
    indicated := satAdd Config.top32 g.indicated p.iv
    gross := satAdd Config.top32 g.gross p.gv
    net := satAdd Config.top32 g.net p.nv
    sumTGV := g.sumTGV + (p.temp.getD 0) * p.gv
    sumGVT := if p.temp.isSome then satAdd Config.top32 g.sumGVT p.gv else g.sumGVT
    postClose := if g.closeRecorded then satAdd Config.top32 g.postClose (p.onBasis basis) else g.postClose
    zeroRun := if p.nA = 0 ∧ p.nB = 0 then g.zeroRun + 1 else 0
    period := some p }

/-! ## The tests of a period event -/

/-- The cause of the first fault test that holds (R67). -/
def Segment.faultTest (g : Segment) (limit : Nat) : Option EndCause :=
  if limit < g.fidelityCount then some .meterFault
  else if g.presetMl + Config.runawayMl < g.gross then some .meterFault
  else if Config.tempFaultAge ≤ g.holdAge then some .tempFault
  else if Config.noFlowRun ≤ g.zeroRun then some .noFlow
  else none

/-- Remaining volume on the basis; below 0 it is taken as 0 (R68). -/
def Segment.remaining (g : Segment) (basis : Basis) : Nat := g.presetMl - g.delivered basis

/-- The phase tests (R68). -/
def Segment.phaseTest (g : Segment) (e : Entry) (basis : Basis) : Segment :=
  if g.remaining basis ≤ e.closeAdvance then g.closeCommand .closing .closed
  else if g.remaining basis ≤ e.slowStop ∧ (g.phase = .lowStart ∨ g.phase = .high) then { g with phase := .lowStop }
  else if g.phase = .lowStart ∧ e.lowStart ≤ g.gross then { g with phase := .high }
  else g

/-- The tests of a flowing segment: fault tests, then phase tests (R66 steps 2 and 3). -/
def Segment.flowTests (g : Segment) (e : Entry) (basis : Basis) (limit : Nat) : Segment :=
  match g.faultTest limit with
  | some cause => g.closeCommand .closing cause
  | none => g.phaseTest e basis

/-- What the flow-end and leak tests decide (R71): flow end with the decided cause, or LEAK. -/
def Segment.closeTest (g : Segment) : Option EndCause :=
  if Config.flowEndRun ≤ g.zeroRun then some (g.endCause.getD .stopped)
  else if Config.leakPeriods ≤ g.closeCounter then some .leak
  else none

/-! ## The period event -/

/-- Phases in which a period's GV is handed to the claims (R95). -/
def Phase.paced (p : Phase) : Bool := p.flowing || p == .closing

/-- The period computed and accumulated at an arm, its GV handed on (R66 step 1, R95). -/
def State.meterPeriod (a : ArmId) (g : Segment) (l : Line) (e : Entry) (s : State) : State :=
  let p := g.period1 e (s.arm a) s.settings.tref
  let g1 := { g.accumulate e (s.arm a) p l.basis with periodTimer := some Config.periodMs }
  let s1 := s.modArm a fun x => { x with status := .segment g1, counterA := 0, counterB := 0 }
  if g.phase.paced then s1.handAll a p.gv else s1

/-- The expiry of a metering period timer that runs (R66). -/
def State.periodExpiry (a : ArmId) (s : State) : State × List Job :=
  match s.seg? a with
  | none => (s, [])
  | some g =>
    if g.periodTimer.isNone then (s, [])
    else match s.segLine? g, s.segEntry? g with
      | some l, some e =>
        let s1 := s.meterPeriod a g l e
        if g.phase.flowing then (s1.modSeg a fun x => x.flowTests e l.basis s.settings.fidelityLimit, [])
        else
          let s2 := s1.modSeg a fun x => { x with closeCounter := x.closeCounter + 1 }
          (s2, match (s2.seg? a).bind Segment.closeTest with
            | some cause => [.endSegment a cause]
            | none => [])
      | _, _ => (s, [])

/-- What a period expiry brings about at an arm, for the rows of the table that name it (log 4). -/
inductive PeriodOutcome where
  | goesOn
  | closes (cause : EndCause)
  | flowEnd
  | leak
  deriving DecidableEq, Repr

/-- What the period expiry of an arm, taken now, would bring about. -/
def State.periodOutcome (a : ArmId) (s : State) : PeriodOutcome :=
  match (s.periodExpiry a).2 with
  | [] =>
    match s.seg? a, ((s.periodExpiry a).1.seg? a).bind (·.endCause) with
    | some g, some cause => if g.phase.flowing then .closes cause else .goesOn
    | _, _ => .goesOn
  | .endSegment _ .leak :: _ => .leak
  | _ :: _ => .flowEnd

/-- The period expiry of an arm when it brings about what a row names, otherwise nothing (log 4). -/
def State.periodWith (a : ArmId) (o : PeriodOutcome) (s : State) : State :=
  if s.periodOutcome a = o then settle (s.periodExpiry a) else s

/-- METERING_PERIOD_EXPIRY (R66). -/
def execMeteringPeriodExpiry (a : ArmId) (s : State) : Host.Outcome State Fault Refusal := .next (settle (s.periodExpiry a))

/-- FLOW_END (R71; log 4). -/
def execFlowEnd (a : ArmId) (s : State) : Host.Outcome State Fault Refusal := .next (s.periodWith a .flowEnd)

/-- LEAK (R71; log 4). -/
def execLeak (a : ArmId) (s : State) : Host.Outcome State Fault Refusal := .next (s.periodWith a .leak)

/-- NO_FLOW (R67; log 4). -/
def execNoFlow (a : ArmId) (s : State) : Host.Outcome State Fault Refusal := .next (s.periodWith a (.closes .noFlow))

/-- TEMP_FAULT (R67; log 4). -/
def execTempFault (a : ArmId) (s : State) : Host.Outcome State Fault Refusal := .next (s.periodWith a (.closes .tempFault))

/-- METER_FAULT (R67; log 4). -/
def execMeterFault (a : ArmId) (s : State) : Host.Outcome State Fault Refusal := .next (s.periodWith a (.closes .meterFault))

/-! ## Inputs of an arm -/

/-- The metering period timer of an arm runs. -/
def Arm.metering (x : Arm) : Bool := x.seg?.any (·.periodTimer.isSome)

/-- A pulse on a channel: counted up to 2,500 while the period timer runs, otherwise discarded (R81). -/
def Arm.pulse (c : Channel) (x : Arm) : Arm :=
  if x.metering then
    match c with
    | .a => { x with counterA := satAdd Config.maxPulses x.counterA 1 }
    | .b => { x with counterB := satAdd Config.maxPulses x.counterB 1 }
  else x

/-- METER_PULSE (R81). -/
def execMeterPulse (a : ArmId) (c : Channel) (s : State) : Host.Outcome State Fault Refusal := .next (s.modArm a (Arm.pulse c))

/-- SAMPLE_FRAME (R82). -/
def execSampleFrame (a : ArmId) (value : BitVec 16) (intact : Bool) (s : State) : Host.Outcome State Fault Refusal :=
  .next (if intact then s.modArm a fun x => { x with sample := some value.toInt, freshness := some Config.freshnessMs } else s)

/-- FRESHNESS_TIMER_EXPIRY (R82): the value is kept, the timer stays stopped. -/
def execFreshnessTimerExpiry (a : ArmId) (s : State) : Host.Outcome State Fault Refusal :=
  .next (s.modArm a fun x => { x with freshness := none })

/-! ## Waits of an arm -/

/-- The expiry of a want timer that runs (R61). -/
def State.wantExpiry (a : ArmId) (s : State) : State × List Job :=
  (s, if (s.seg? a).any fun g => g.wantTimer.isSome then [.endSegment a .profileTimeout] else [])

/-- The expiry of an injector wait timer that runs (R63). -/
def State.injectorWaitExpiry (a : ArmId) (s : State) : State × List Job :=
  (s, if (s.seg? a).any fun g => g.injectorTimer.isSome then [.endSegment a .injectorTimeout] else [])

/-- WANT_TIMER_EXPIRY (R61). -/
def execWantTimerExpiry (a : ArmId) (s : State) : Host.Outcome State Fault Refusal := .next (settle (s.wantExpiry a))

/-- INJECTOR_WAIT_TIMER_EXPIRY (R63). -/
def execInjectorWaitTimerExpiry (a : ArmId) (s : State) : Host.Outcome State Fault Refusal :=
  .next (settle (s.injectorWaitExpiry a))

/-! ## Injectors -/

/-- CONFIRM_EDGE (R136, R138, R142). -/
def execConfirmEdge (j : InjId) (s : State) : Host.Outcome State Fault Refusal := .next (settle (s.confirmEdge j))

/-- CONFIRM_TIMER_EXPIRY (R137, R142). -/
def execConfirmTimerExpiry (j : InjId) (s : State) : Host.Outcome State Fault Refusal := .next (settle (s.confirmExpiry j))

/-- INJECTOR_FAULT (R139; log 4): the confirm expiry, or the confirm edge, that brings the injector to FAULT. -/
def execInjectorFault (j : InjId) (cause : FaultBy) (s : State) : Host.Outcome State Fault Refusal :=
  .next (match cause with
    | .miss => if (s.injector j).nextMissFaults then settle (s.confirmExpiry j) else s
    | .stray => if (s.injector j).nextStrayFaults then settle (s.confirmEdge j) else s)

end Sys2Proof.Machine
end

