-- ==== Sys2Proof/Machine/Bays.lean ====
section
/-! DEFINITION. The bay controllers: the bay requests (R29..R31, R34..R36), holds, restorations and trips (R43..R47), the
bay timers (R37, R39, R46) and the end of a visit (R42). -/

namespace Sys2Proof.Machine

/-! ## Referrals -/

/-- A bay's referral joins the list (R33, R34). -/
def State.joinReferral (b : BayId) (card : Nat) (s : State) : State :=
  let s1 := s.setReferrals (s.referrals ++ [⟨b, card, s.clock.minute⟩])
  (s1.modBay b fun x => { x with card := some card, referralTimer := some Config.referralMs }).setBayState b .authorizing

/-- A bay's referral leaves the list and its timer stops (R34). -/
def State.dropReferral (b : BayId) (s : State) : State :=
  (s.setReferrals (s.referrals.filter fun r => r.bay != b)).modBay b fun x => { x with referralTimer := none }

/-- An AUTHORIZING bay lets go of its card: the referral goes, the card is cleared, and the bay prompts (R31, R36, R37, R42). -/
def State.endReferral (b : BayId) (st : BayState) (p : Prompt) (s : State) : State :=
  (((s.dropReferral b).modBay b fun x => { x with card := none }).setBayState b st).prompt b p

/-! ## Holds, restorations and trips -/

/-- A loss of permission from GROUND, VAPOUR or a hold flag (R44). -/
def State.loss (b : BayId) (s : State) : State × List Job :=
  match (s.bay b).state with
  | .loading =>
    let s1 := ((s.modBay b fun x => { x with holdWindow := some Config.holdWindowMs }).setBayState b .hold).prompt b (.hold 120)
    (s1.shutBay b Segment.pause, s1.groupEnds (s1.acquiringArms b) .hold)
  | .carded =>
    (((s.modBay b fun x => { x with cardIdleTimer := none, holdWindow := none }).setBayState b .hold).prompt b (.hold 0), [])
  | .closed => (s, [])
  | .idle => (s, [])
  | .authorizing => (s, [])
  | .hold => (s, [])
  | .tripped => (s, [])
  | .ending => (s, [])

/-- A restoration at a bay in HOLD (R45); in other states it has no effect beyond the record (R43). -/
def State.restore (b : BayId) (s : State) : State × List Job :=
  if (s.bay b).state ≠ .hold then (s, [])
  else if (s.bay b).holdWindow.isSome then
    ((s.modBay b fun x => { x with holdWindow := none }).setBayState b .loading,
      (s.waitArms b).map (fun a => Job.resume b a) ++ [.settleBay b])
  else if s.bayBusy b then (s.setBayState b .loading, [])
  else (s.cardedEntry b, [])

/-- A trip (R47). -/
def State.trip (b : BayId) (cause : EndCause) (s : State) : State × List Job :=
  let s1 := ((s.modBay b fun x => { x with holdWindow := none, cardIdleTimer := none }).setBayState b .tripped).prompt b .tripped
  let s2 := (s1.releaseWaiting b).shutBay b (Segment.shut cause)
  (s2, s2.groupEnds (s2.acquiringArms b) cause)

/-- A change of permission, from `before` to what the bay record now gives (R43). -/
def State.permissionChange (b : BayId) (before : Bool) (s : State) : State × List Job :=
  if before && !(s.bay b).permitted then s.loss b
  else if !before && (s.bay b).permitted then s.restore b
  else (s, [])

/-- The level of a permissive input. -/
def inputLevel (p : Permissives) : Permissive → Bool
  | .ground => p.ground
  | .vapour => p.vapour
  | .overfill => p.overfill
  | .estop => p.estop

/-- Record the level of a permissive input. -/
def setLevel (i : Permissive) (v : Bool) (p : Permissives) : Permissives :=
  match i with
  | .ground => { p with ground := v }
  | .vapour => { p with vapour := v }
  | .overfill => { p with overfill := v }
  | .estop => { p with estop := v }

/-- The cause of the trip that an input makes when it becomes unhealthy (R47). -/
def tripCause : Permissive → Option EndCause
  | .overfill => some .overfill
  | .estop => some .estop
  | .ground => none
  | .vapour => none

/-- A bay state in which an unhealthy ESTOP or OVERFILL trips the bay (R47). -/
def BayState.trips : BayState → Bool
  | .carded => true
  | .loading => true
  | .hold => true
  | _ => false

/-- A permissive input changes level (R43, R47): recorded and marked in every state; a level that is no change is no event
(log 21). -/
def State.permissive (b : BayId) (i : Permissive) (healthy : Bool) (s : State) : State × List Job :=
  if inputLevel (s.bay b).inputs i = healthy then (s, [])
  else
    let before := (s.bay b).permitted
    let s1 := (s.modBay b fun x => { x with inputs := setLevel i healthy x.inputs }).mark (.bay b)
    match tripCause i, healthy with
    | some cause, false => if (s.bay b).state.trips then s1.trip b cause else (s1, [])
    | _, _ =>
      if (s.bay b).state = .tripped then
        (if allHealthy (s1.bay b).inputs && !s1.bayBusy b then s1.cardedEntry b else s1, [])
      else s1.permissionChange b before

/-! ## The end of a visit -/

/-- One segment in acquisition ends STOPPED with the prompt of R41 and without its bay handling (R31, R42). -/
def State.endQuietly (b : BayId) (s : State) (a : ArmId) : State := (s.endAtArm a .stopped).prompt b (.stopped a .stopped)

/-- Every segment of a bay is stopped: waiting arms are released, the window stops, flowing and pausing segments close,
segments in acquisition end (R31, R42). -/
def State.stopVisit (b : BayId) (s : State) : State :=
  let s1 := (s.modBay b fun x => { x with holdWindow := none }).releaseWaiting b
  (s1.acquiringArms b).foldl (State.endQuietly b) (s1.shutBay b (Segment.shut .stopped))

/-- END at LOADING, HOLD or TRIPPED (R42). -/
def State.endLoading (b : BayId) (s : State) : State × List Job :=
  let s1 := s.stopVisit b
  (if s1.bayBusy b then s1.setBayState b .ending else s1.closeOrder b false, s.heldGrants (s.acquiringArms b))

/-- An END frame at a bay, or ORDER END of its order (R42). -/
def State.endVisit (b : BayId) (s : State) : State × List Job :=
  match (s.bay b).state with
  | .closed => (s, [])
  | .idle => (s, [])
  | .authorizing => (s.endReferral b .idle (.done 0), [])
  | .carded => (s.closeOrder b false, [])
  | .loading => s.endLoading b
  | .hold => s.endLoading b
  | .tripped => s.endLoading b
  | .ending => (s.prompt b .busy, [])

/-- A bay lets go of its order with no segment left: it is closed if LOADING, reverted if BOUND (R31, R50). -/
def State.letGo (b : BayId) (byRestart : Bool) (s : State) : State :=
  match s.boundOrder? b with
  | none => s
  | some o => if o.state = .bound then s.revertOrder b else s.closeOrder b byRestart

/-- BAY CLOSE at CARDED, HOLD, TRIPPED or LOADING (R31). -/
def State.closeVisit (b : BayId) (s : State) : State × List Job :=
  let s1 := (s.modBay b fun x => { x with closePending := true }).stopVisit b
  (if s1.bayBusy b then s1.setBayState b .ending else s1.letGo b false, s.heldGrants (s.acquiringArms b))

/-- BAY CLOSE at a bay (R31). -/
def State.closeBay (b : BayId) (s : State) : State × List Job :=
  match (s.bay b).state with
  | .closed => (s, [])
  | .idle => (s.setBayState b .closed, [])
  | .authorizing => (s.endReferral b .closed (.refused .bayClosed), [])
  | .carded => s.closeVisit b
  | .loading => s.closeVisit b
  | .hold => s.closeVisit b
  | .tripped => s.closeVisit b
  | .ending => (s.modBay b fun x => { x with closePending := true }, [])

/-! ## Bay timers -/

/-- Referral timer expiry (R37). -/
def State.referralExpiry (b : BayId) (s : State) : State :=
  if (s.bay b).referralTimer.isSome && (s.bay b).state == .authorizing then s.endReferral b .idle (.refused .noAnswer) else s

/-- Card idle timer expiry (R39). -/
def State.cardIdleExpiry (b : BayId) (s : State) : State :=
  if (s.bay b).cardIdleTimer.isSome && (s.bay b).state == .carded then
    if (s.boundOrder? b).any fun o => o.noteSlot.isSome then s.closeOrder b false else s.revertOrder b
  else s

/-- Hold window expiry (R46). -/
def State.holdWindowExpiry (b : BayId) (s : State) : State :=
  if (s.bay b).holdWindow.isSome && (s.bay b).state == .hold then
    ((s.modBay b fun x => { x with holdWindow := none }).releaseWaiting b).prompt b (.hold 0)
  else s

/-! ## Requests -/

/-- A request that names a bay in a body of `n` bytes: its shape and BAD_VALUE (R29). -/
def onBay (n : Nat) (b : List Byte) (s : State) (f : BayId → State × Answer × List Job) : State × Answer × List Job :=
  if b.length ≠ n then (s, .refuse .malformed, [])
  else match bayOf (u8 b 0) with
    | none => (s, .refuse .badValue, [])
    | some x => f x

/-- BAY OPEN at a bay (R30). -/
def State.openBay (b : BayId) (s : State) : State :=
  match (s.bay b).state with
  | .closed => s.setBayState b .idle
  | .ending => s.modBay b fun x => { x with closePending := false }
  | .idle => s
  | .authorizing => s
  | .carded => s
  | .loading => s
  | .hold => s
  | .tripped => s

/-- BAY OPEN (R30). -/
def bayOpen (b : List Byte) (s : State) : State × Answer × List Job := onBay 1 b s fun x => (s.openBay x, .ok [], [])

/-- BAY CLOSE (R31). -/
def bayClose (b : List Byte) (s : State) : State × Answer × List Job :=
  onBay 1 b s fun x => ((s.closeBay x).1, .ok [], (s.closeBay x).2)

/-- The arms whose claim names a bay, bit a for arm a (R195). -/
def State.claimMask (s : State) (b : BayId) : Nat :=
  (allArms.filter fun a => (s.arm a).claim == some b).foldl (fun m a => m + 2 ^ a.val) 0

/-- BAY GET (R29, R195). -/
def bayGet (b : List Byte) (s : State) : State × Answer × List Job :=
  onBay 1 b s fun x =>
    let y := s.bay x
    (s, .ok (b1 y.state.code ++ b4 (orCode 0 y.card) ++ b4 (orCode 0 y.boundOrder) ++ b1 (unhealthyByte y.inputs)
      ++ b1 y.holdFlags.toNat ++ b1 (secondsLeft y.holdWindow) ++ b1 y.timerByte
      ++ b1 (s.claimMask x / 65536) ++ b2 (s.claimMask x)), [])

/-- Change a bay's hold-flag set, with the change of permission it makes (R43). -/
def State.setHoldFlags (b : BayId) (flags : BitVec 8) (s : State) : State × List Job :=
  (s.modBay b fun x => { x with holdFlags := flags }).permissionChange b (s.bay b).permitted

/-- The mask byte of HOLD SET and HOLD CLEAR (R194). -/
def maskOf (b : List Byte) : BitVec 8 := b.getD 1 0

/-- HOLD SET (R43). -/
def holdSet (b : List Byte) (s : State) : State × Answer × List Job :=
  onBay 2 b s fun x =>
    let r := s.setHoldFlags x ((s.bay x).holdFlags ||| maskOf b)
    (r.1, .ok [], r.2)

/-- HOLD CLEAR (R43). -/
def holdClear (b : List Byte) (s : State) : State × Answer × List Job :=
  onBay 2 b s fun x =>
    let r := s.setHoldFlags x ((s.bay x).holdFlags &&& ~~~(maskOf b))
    (r.1, .ok [], r.2)

/-- An order that AUTH GRANT may name: POSTED, for the referred card (R35). -/
def Order.grantable (o : Order) (card : Option Nat) : Bool := o.state == .posted && card == some o.card

/-- AUTH GRANT at an AUTHORIZING bay (R35). -/
def State.grantReferral (b : BayId) (orderNo : Nat) (s : State) : State × Answer :=
  match s.order? orderNo with
  | none => (s, .refuse .badValue)
  | some o =>
    if !o.grantable (s.bay b).card then (s, .refuse .badValue)
    else match (s.dropReferral b).bindOrder b o.card orderNo with
      | .error r => (s.endReferral b .idle (.refused r), .wrongState (some r))
      | .ok s' => (s', .ok [])

/-- AUTH GRANT (R35). -/
def authGrant (b : List Byte) (s : State) : State × Answer × List Job :=
  onBay 5 b s fun x =>
    if (s.bay x).state ≠ .authorizing then (s, .refuse .late, [])
    else ((s.grantReferral x (u32 b 1)).1, (s.grantReferral x (u32 b 1)).2, [])

/-- AUTH DENY (R36). -/
def authDeny (b : List Byte) (s : State) : State × Answer × List Job :=
  onBay 1 b s fun x =>
    if (s.bay x).state ≠ .authorizing then (s, .refuse .late, [])
    else (s.endReferral x .idle (.refused .denied), .ok [], [])

/-- REFERRAL LIST (R34, R195). -/
def referralList (b : List Byte) (s : State) : State × Answer :=
  if b.length ≠ 0 then (s, .refuse .malformed)
  else (s, .ok (b1 s.referrals.length ++ s.referrals.flatMap fun r =>
    b1 r.bay.val ++ b4 r.card ++ b2 r.minute ++ b1 (secondsLeft (s.bay r.bay).referralTimer)))

/-- ORDER END (R42). -/
def orderEnd (b : List Byte) (s : State) : State × Answer × List Job :=
  if b.length ≠ 4 then (s, .refuse .malformed, [])
  else match s.order? (u32 b 0) with
    | none => (s, .refuse .notFound, [])
    | some o =>
      match o.state, o.bay with
      | .posted, _ => (s, .wrongState none, [])
      | _, none => (s, .ok [], [])
      | _, some x => ((s.endVisit x).1, .ok [], (s.endVisit x).2)

end Sys2Proof.Machine
end

