-- ==== Sys2Proof/Machine/Modes.lean ====
section
/-! DEFINITION. Mode, metrology seal and CAL input (R174..R181), the warm restart (R183 and the rules it cites) and the
power-on reset (R184). -/

namespace Sys2Proof.Machine

/-! ## Requests -/

/-- A bay that holds no card and no visit (R174). -/
def BayState.quiet : BayState → Bool
  | .closed => true
  | .idle => true
  | _ => false

/-- The mode a code stands for (R194). -/
def modeOf (code : Nat) : Option Mode :=
  match code with
  | 0 => some .standalone
  | 1 => some .referred
  | _ => none

/-- MODE SET (R174). -/
def modeSet (b : List Byte) (s : State) : State × Answer :=
  if b.length ≠ 1 then (s, .refuse .malformed)
  else match modeOf (u8 b 0) with
    | none => (s, .refuse .badValue)
    | some m =>
      if allBays.all fun x => (s.bay x).state.quiet then ({ s with settings := { s.settings with mode := m } }, .ok [])
      else (s, .wrongState none)

/-- The setting a SEAL SET writes (R179), none for a bad name or value. -/
def sealedSetting (name value : Nat) (t : Settings) : Option Settings :=
  match name with
  | 0 => if value = 1500 ∨ value = 2000 then some { t with tref := value } else none
  | 1 => if 1 ≤ value ∧ value ≤ 1000 then some { t with fidelityLimit := value } else none
  | _ => none

/-- SEAL SET (R179, R180). -/
def sealSet (b : List Byte) (s : State) : State × Answer :=
  if b.length ≠ 3 then (s, .refuse .malformed)
  else match sealedSetting (u8 b 0) (u16 b 1) s.settings with
    | none => (s, .refuse .badValue)
    | some t => if s.settings.cal then (State.countSeal { s with settings := t }, .ok []) else (s, .refuse .unsealed)

/-- SETTINGS GET (R184, R195). -/
def settingsGet (b : List Byte) (s : State) : State × Answer :=
  if b.length ≠ 0 then (s, .refuse .malformed)
  else
    let t := s.settings
    (s, .ok (b1 t.mode.code ++ flag1 t.strap ++ flag1 t.cal ++ b2 t.tref ++ b2 t.fidelityLimit ++ b2 t.sealCount
      ++ b1 t.startCause.code ++ b2 t.restartCount))

/-! ## The CAL input -/

/-- Every arm with a segment, in ascending number. -/
def State.segmentArms (s : State) : List ArmId := allArms.filter fun a => (s.seg? a).isSome

/-- The arms whose segments are in acquisition, in ascending number. -/
def State.allAcquiring (s : State) : List ArmId := allArms.filter fun a => (s.seg? a).any fun g => g.phase.acquiring

/-- An assertion of CAL: every segment is reached by its phase (R176); an input already asserted is no assertion (log 21). -/
def State.assertCal (s : State) : State × List Job :=
  if s.settings.cal then (s, [])
  else
    let s1 := s.segmentArms.foldl (fun t a => t.modSeg a (Segment.shutFlowing .calSeal)) (s.setCal true)
    (s1, s1.groupEnds s1.allAcquiring .calSeal)

/-- CAL_ASSERTION (R175, R176). -/
def execCalAssertion (s : State) : Host.Outcome State Fault Refusal := .next (settle s.assertCal)

/-- CAL_RELEASE (R178). -/
def execCalRelease (s : State) : Host.Outcome State Fault Refusal := .next (s.setCal false)

/-! ## Warm restart -/

/-- The attention unit's part: every mark and every occurrence record is cleared, the selections are kept (R172). -/
def Attention.restart (t : Attention) : Attention := { Attention.powerOn with edges := t.edges }

/-- An arm's part: a segment ends RESTART with steps 1 to 7, a wait is released, FAULT stays (R80). -/
def State.restartArm (s : State) (a : ArmId) : State :=
  match (s.arm a).status with
  | .segment _ => s.endAtArm a .restart
  | .resumeWait _ _ => s.releaseArm a
  | .idle => s
  | .fault => s

/-- What the restart leaves of a bay record once its visit is settled: no hold flag, no timer, no close pending (R50). -/
def Bay.restart (x : Bay) : Bay :=
  { x with holdFlags := 0, holdWindow := none, referralTimer := none, cardIdleTimer := none, closePending := false }

/-- A bay's part (R50). -/
def State.restartBay (s : State) (b : BayId) : State :=
  let s1 := match (s.bay b).state with
    | .closed => s
    | .idle => s
    | .authorizing => s.endReferral b .idle (.done 0)
    | .carded => s.letGo b true
    | .loading => s.letGo b true
    | .hold => s.letGo b true
    | .tripped => s.letGo b true
    | .ending => s.letGo b true
  s1.modBay b Bay.restart

/-- An injector's part (R146). -/
def Injector.restart (x : Injector) : Injector :=
  match x.state with
  | .fault => { x with queued := false, accNl := 0 }
  | .outOfService => { x with queued := false, accNl := 0 }
  | .idle => { x with state := .idle, claimant := none, firing := false, confirmTimer := none, queued := false, accNl := 0 }
  | .claimed => { x with state := .idle, claimant := none, firing := false, confirmTimer := none, queued := false, accNl := 0 }
  | .releasing => { x with state := .idle, claimant := none, firing := false, confirmTimer := none, queued := false, accNl := 0 }

/-- The dosing unit's part (R146). -/
def Dosing.restart (d : Dosing) : Dosing :=
  { d with injectors := d.injectors.map Injector.restart, queues := Vector.replicate 15 [] }

/-- The link's part: inbound frames and a partial frame are dropped, responses behind the one in progress too (R192). -/
def Link.restart (k : Link) : Link :=
  { k with receiver := .hunt, gapTimer := none, inbound := [], outbound := k.outbound.take 1 }

/-- The start record's part (R181). -/
def Settings.restart (cause : StartCause) (t : Settings) : Settings :=
  { t with startCause := cause, restartCount := satAdd Config.top16 t.restartCount 1 }

/-- The warm restart (R183): marks first, then the segments, then the bays, then the lists and queues. -/
def State.warmRestart (cause : StartCause) (s : State) : State :=
  let s1 := { s with att := s.att.restart }
  let s2 := allArms.foldl State.restartArm s1
  let s3 := allBays.foldl State.restartBay s2
  let s4 := (s3.setWants []).setReferrals []
  { s4 with dosing := s4.dosing.restart, link := s4.link.restart, settings := s4.settings.restart cause }

/-- RESTART_INPUT (R182, R183). -/
def execRestartInput (s : State) : Host.Outcome State Fault Refusal := .next (s.warmRestart .restartInput)

/-- POWER_ON_RESET (R184). The commands still waiting are the model's own and stay. -/
def execPowerOnReset (pins : PowerOnPins) (s : State) : Host.Outcome State Fault Refusal :=
  .next { State.powerOn pins with pending := s.pending }

end Sys2Proof.Machine
end

