-- ==== Sys2Proof/Machine/Link.lean ====
section
/-! DEFINITION. The rack link: responses (R190, R191), the owners of the requests (R189, R194), the inbound queue (R188,
R189), the receiver (R186, R187), the restart of the link (R192) and its counts (R193). -/

namespace Sys2Proof.Machine

/-! ## Responses -/

/-- The response kind of a frame (R185). -/
def responseKind (kind : Byte) : Byte := if kind.toNat < 0x80 then kind + 0x80 else 0xFF

/-- Sum of bytes, 8 bits (R185). -/
def byteSum (bs : List Byte) : Byte := bs.foldl (· + ·) 0

/-- A frame's bytes from its length to the end of its body (R185). -/
def Frame.counted (f : Frame) : List Byte := BitVec.ofNat 8 (2 + f.body.length) :: f.kind :: f.tag :: f.body

/-- A frame as it stands on the line: marker, length, kind, tag, body and check byte (R185). -/
def Frame.bytes (f : Frame) : List Byte := 0xC3 :: (f.counted ++ [-(byteSum f.counted)])

/-- The response to a frame (R190). -/
def Frame.response (f : Frame) (a : Answer) : Frame := ⟨responseKind f.kind, f.tag, a.bytes⟩

/-- A response joins the end of the outbound list (R191). -/
def State.respond (f : Frame) (a : Answer) (s : State) : State :=
  { s with link := { s.link with outbound := s.link.outbound ++ [f.response a] } }

/-- The OK response of a RESTART request (R192). -/
def Frame.isRestart (f : Frame) : Bool := f.kind == 0xFE && f.body == [0x00]

/-! ## Owners of requests -/

/-- LINK GET (R193): the outbound number includes its own response. -/
def linkGet (b : List Byte) (s : State) : State × Answer :=
  if b.length ≠ 0 then (s, .refuse .malformed)
  else
    let k := s.link
    (s, .ok (b4 k.lengthErrors ++ b4 k.gapErrors ++ b4 k.lineErrors ++ b4 k.checkErrors ++ b4 k.busyCount ++ b4 k.dropCount
      ++ b1 k.inbound.length ++ b1 (k.outbound.length + 1)))

/-- RESTART (R182): a body is answered BAD_VALUE; the restart follows its OK response (R192). -/
def restart (b : List Byte) (s : State) : State × Answer := if b.length ≠ 0 then (s, .refuse .badValue) else (s, .ok [])

/-- An owner whose request starts nothing further. -/
def plain (r : State × Answer) : State × Answer × List Job := (r.1, r.2, [])

/-- PROFILE LOAD with what its satisfied want starts (R112, R61). -/
def profileLoadJobs (b : List Byte) (s : State) : State × Answer × List Job :=
  let r := profileLoad b s
  (r.1, r.2.1, (r.2.2.map Job.enterInjector).toList)

/-- The request handed to its owner: the state, the answer, and the parts of the event that follow (R189, R194). -/
def owner (kind : Byte) (b : List Byte) (s : State) : State × Answer × List Job :=
  match kind.toNat with
  | 0x10 => plain (permitPut b s)
  | 0x11 => plain (permitGet b s)
  | 0x12 => plain (permitSuspend b s)
  | 0x13 => plain (permitResume b s)
  | 0x14 => plain (permitUnlock b s)
  | 0x15 => plain (permitRetire b s)
  | 0x16 => plain (walk b s)
  | 0x20 => plain (orderPost b s)
  | 0x21 => plain (orderGet b s)
  | 0x22 => plain (orderCancel b s)
  | 0x23 => orderEnd b s
  | 0x28 => bayOpen b s
  | 0x29 => bayClose b s
  | 0x2A => bayGet b s
  | 0x2B => holdSet b s
  | 0x2C => holdClear b s
  | 0x2D => authGrant b s
  | 0x2E => authDeny b s
  | 0x2F => plain (referralList b s)
  | 0x30 => plain (armSet b s)
  | 0x31 => armGet b s
  | 0x32 => armStart b s
  | 0x33 => armStop b s
  | 0x34 => armClear b s
  | 0x40 => profileLoadJobs b s
  | 0x41 => plain (profileRead b s)
  | 0x42 => plain (profileDrop b s)
  | 0x43 => plain (profileList b s)
  | 0x44 => plain (wantList b s)
  | 0x50 => plain (recipePut b s)
  | 0x51 => plain (recipeGet b s)
  | 0x52 => plain (recipeRetire b s)
  | 0x53 => plain (recipeList b s)
  | 0x58 => injectorSet b s
  | 0x59 => plain (injectorShot b s)
  | 0x5A => injectorClear b s
  | 0x5B => plain (injectorGet b s)
  | 0x5C => plain (queueList b s)
  | 0x60 => plain (notePeek b s)
  | 0x61 => plain (noteTake b s)
  | 0x62 => plain (noteList b s)
  | 0x63 => plain (serialSet b s)
  | 0x70 => plain (clockSet b s)
  | 0x71 => plain (clockGet b s)
  | 0x72 => plain (attentionRead b s)
  | 0x73 => plain (attentionEdges b s)
  | 0x78 => plain (modeSet b s)
  | 0x79 => plain (sealSet b s)
  | 0x7A => plain (settingsGet b s)
  | 0x7B => plain (linkGet b s)
  | 0x7E => plain (restart b s)
  | _ => (s, .refuse .unknown, [])

/-! ## The inbound queue -/

/-- Take a frame that has left the queue: its owner acts, what follows is taken, and its response joins the list (R189). -/
def State.takeFrame (f : Frame) (s : State) : State :=
  let r := owner f.kind f.body s
  (settle (r.1, r.2.2)).respond f r.2.1

/-- The outbound list has room (R191). -/
def Link.hasRoom (k : Link) : Bool := k.outbound.length < Config.outboundCapacity

/-- A frame may be taken: the outbound list has room and holds no RESTART response (R189, R192). -/
def Link.mayTake (k : Link) : Bool := k.hasRoom && !k.outbound.any Frame.isRestart

/-- Take frames from the head of the inbound queue while they may be taken (R189; log 1). -/
def drain : Nat → State → State
  | 0, s => s
  | n + 1, s =>
    match s.link.inbound with
    | [] => s
    | f :: rest => if s.link.mayTake then drain n (State.takeFrame f { s with link := { s.link with inbound := rest } }) else s

/-- Take every frame that may be taken now. -/
def State.drained (s : State) : State := drain s.link.inbound.length s

/-- Count at the link, staying at the top (R193). -/
def count (n : Nat) : Nat := satAdd Config.top32 n 1

/-- A well-formed frame is offered to the inbound queue: it joins, is answered BUSY, or is dropped (R188). -/
def State.offer (f : Frame) (s : State) : State :=
  if s.link.inbound.length < Config.inboundCapacity then
    State.drained { s with link := { s.link with inbound := s.link.inbound ++ [f] } }
  else if s.link.hasRoom then
    State.respond f (.refuse .busy) { s with link := { s.link with busyCount := count s.link.busyCount } }
  else { s with link := { s.link with dropCount := count s.link.dropCount } }

/-! ## The receiver -/

/-- The receiver returns to HUNT with the gap timer stopped (R186). -/
def Link.hunt (k : Link) : Link := { k with receiver := .hunt, gapTimer := none }

/-- The frame that a length byte and the bytes after it make. -/
def frameOf (got : List Byte) : Frame := ⟨got.getD 0 0, got.getD 1 0, (got.drop 2).dropLast⟩

/-- A complete frame is checked, and offered when its sum is 0 (R187). -/
def State.complete (len : Byte) (got : List Byte) (s : State) : State :=
  let s1 := { s with link := s.link.hunt }
  if byteSum (len :: got) = 0 then s1.offer (frameOf got)
  else { s1 with link := { s1.link with checkErrors := count s1.link.checkErrors } }

/-- A received byte without a framing error (R186). -/
def State.takeByte (x : Byte) (s : State) : State :=
  match s.link.receiver with
  | .hunt =>
    if x = 0xC3 then { s with link := { s.link with receiver := .length, gapTimer := some Config.gapMs } } else s
  | .length =>
    if 2 ≤ x.toNat ∧ x.toNat ≤ 250 then
      { s with link := { s.link with receiver := .collect x [], gapTimer := some Config.gapMs } }
    else { s with link := { s.link.hunt with lengthErrors := count s.link.lengthErrors } }
  | .collect len got =>
    if got.length = len.toNat then s.complete len (got ++ [x])
    else { s with link := { s.link with receiver := .collect len (got ++ [x]), gapTimer := some Config.gapMs } }

/-- A received byte with a framing error (R186). -/
def State.lineError (s : State) : State :=
  match s.link.receiver with
  | .hunt => s
  | .length => { s with link := { s.link.hunt with lineErrors := count s.link.lineErrors } }
  | .collect _ _ => { s with link := { s.link.hunt with lineErrors := count s.link.lineErrors } }

/-- RECEIVE_BYTE (R186, R187). -/
def execReceiveByte (x : Byte) (framingError : Bool) (s : State) : Host.Outcome State Fault Refusal :=
  .next (if framingError then s.lineError else s.takeByte x)

/-- GAP_TIMER_EXPIRY (R186). -/
def execGapTimerExpiry (s : State) : Host.Outcome State Fault Refusal :=
  .next (if s.link.gapTimer.isSome then { s with link := { s.link.hunt with gapErrors := count s.link.gapErrors } } else s)

/-- RESPONSE_SENT (R191, R192): the response in progress leaves; after a RESTART response the restart is taken; the frames
that may now be taken are taken. With no response in progress nothing happens: DESIGN CHOICE (log 30). -/
def execResponseSent (s : State) : Host.Outcome State Fault Refusal :=
  .next (match s.link.outbound with
    | [] => s
    | r :: rest =>
      let s1 := State.emit (.response r.bytes) { s with link := { s.link with outbound := rest } }
      if r.isRestart then (s1.warmRestart .restartRequest).drained else s1.drained)

end Sys2Proof.Machine
end

