-- ==== Sys2Proof/Machine/Panel.lean ====
section
/-! DEFINITION. What arrives on the panel lines (R32, R33, R40, R42), on the permissive inputs (R43) and at the bay
timers' expiries (R37, R39, R46). A panel frame with a field outside its valid values is discarded as malformed (R32). -/

namespace Sys2Proof.Machine

/-- A well-formed panel frame restarts the card idle timer of a CARDED bay (R39). -/
def State.touch (b : BayId) (s : State) : State :=
  if (s.bay b).state = .carded then s.modBay b fun x => { x with cardIdleTimer := some Config.cardIdleMs } else s

/-- A CARD frame at an IDLE bay whose card-in check passes, in STANDALONE mode (R33). -/
def State.cardStandalone (b : BayId) (card : Nat) (s : State) : State :=
  match s.selectOrder card b with
  | none => s.prompt b (.refused .noOrder)
  | some o =>
    match s.bindOrder b card o.orderNo with
    | .error r => s.prompt b (.refused r)
    | .ok s' => s'

/-- A CARD frame (R33). -/
def State.cardFrame (b : BayId) (card : Nat) (s : State) : State :=
  if (s.bay b).state ≠ .idle then s.prompt b .busy
  else match cardInCheck (s.permit? card) s.clock.day with
    | some r => s.prompt b (.refused r)
    | none =>
      match s.settings.mode with
      | .standalone => s.cardStandalone b card
      | .referred => (s.joinReferral b card).prompt b .checking

/-- A START frame (R40). -/
def State.startFrame (b : BayId) (a : ArmId) (compartment : Nat) (s : State) : State × List Job :=
  if s.armServes a b then (s.prompt b (.loading a), [])
  else
    let r := s.offerStart ⟨b, a, compartment, .panel⟩
    match r.refusal with
    | none => (r.state, r.jobs)
    | some reason => (r.state.prompt b (.refused reason), [])

/-- A STOP frame (R40). -/
def State.stopFrame (b : BayId) (a : ArmId) (s : State) : State × List Job :=
  if s.armServes a b then s.stopSegment a .stopped
  else if (s.arm a).waitsFor b then (s.cancelWait a, [])
  else (s.prompt b (.refused .noSegment), [])

/-- MALFORMED_PANEL_FRAME: discarded without a prompt (R32). -/
def execMalformedPanelFrame (_b : BayId) (s : State) : Host.Outcome State Fault Refusal := .next s

/-- CARD (R33, R39). -/
def execCard (b : BayId) (card : Nat) (s : State) : Host.Outcome State Fault Refusal :=
  .next (if cardIdValid card then (s.touch b).cardFrame b card else s)

/-- START (R40, R39). -/
def execStart (b : BayId) (arm compartment : Nat) (s : State) : Host.Outcome State Fault Refusal :=
  .next (match armOf arm with
    | none => s
    | some a => if compartmentValid compartment then settle ((s.touch b).startFrame b a compartment) else s)

/-- STOP (R40, R39). -/
def execStop (b : BayId) (arm : Nat) (s : State) : Host.Outcome State Fault Refusal :=
  .next (match armOf arm with
    | none => s
    | some a => settle ((s.touch b).stopFrame b a))

/-- END (R42, R39). -/
def execEndVisit (b : BayId) (s : State) : Host.Outcome State Fault Refusal := .next (settle ((s.touch b).endVisit b))

/-- PERMISSIVE_CHANGE (R43..R47). -/
def execPermissiveChange (b : BayId) (i : Permissive) (healthy : Bool) (s : State) : Host.Outcome State Fault Refusal :=
  .next (settle (s.permissive b i healthy))

/-- REFERRAL_TIMER_EXPIRY (R37). -/
def execReferralTimerExpiry (b : BayId) (s : State) : Host.Outcome State Fault Refusal := .next (s.referralExpiry b)

/-- CARD_IDLE_TIMER_EXPIRY (R39). -/
def execCardIdleTimerExpiry (b : BayId) (s : State) : Host.Outcome State Fault Refusal := .next (s.cardIdleExpiry b)

/-- HOLD_WINDOW_EXPIRY (R46). -/
def execHoldWindowExpiry (b : BayId) (s : State) : Host.Outcome State Fault Refusal := .next (s.holdWindowExpiry b)

end Sys2Proof.Machine
end

