-- ==== Sys2Proof/Machine/Requests.lean ====
section
/-! DEFINITION. The request commands: each is the arrival of its complete, well-formed frame, offered to the inbound queue
and taken as R189 lets it (log 1). Its owner's rule stands in the owner's file (Link.lean names it under the frame's kind). -/

namespace Sys2Proof.Machine

/-- UNKNOWN_REQUEST (R189): a frame whose kind is not in the request code table. -/
def execUnknownRequest (kind tag : Byte) (body : List Byte) (s : State) : Host.Outcome State Fault Refusal :=
  .next (s.offer ⟨kind, tag, body⟩)

/-- PERMIT_PUT (R4). -/
def execPermitPut (tag : Byte) (body : List Byte) (s : State) : Host.Outcome State Fault Refusal :=
  .next (s.offer ⟨0x10, tag, body⟩)

/-- PERMIT_GET (R8). -/
def execPermitGet (tag : Byte) (body : List Byte) (s : State) : Host.Outcome State Fault Refusal :=
  .next (s.offer ⟨0x11, tag, body⟩)

/-- PERMIT_SUSPEND (R5). -/
def execPermitSuspend (tag : Byte) (body : List Byte) (s : State) : Host.Outcome State Fault Refusal :=
  .next (s.offer ⟨0x12, tag, body⟩)

/-- PERMIT_RESUME (R5). -/
def execPermitResume (tag : Byte) (body : List Byte) (s : State) : Host.Outcome State Fault Refusal :=
  .next (s.offer ⟨0x13, tag, body⟩)

/-- PERMIT_UNLOCK (R6). -/
def execPermitUnlock (tag : Byte) (body : List Byte) (s : State) : Host.Outcome State Fault Refusal :=
  .next (s.offer ⟨0x14, tag, body⟩)

/-- PERMIT_RETIRE (R7). -/
def execPermitRetire (tag : Byte) (body : List Byte) (s : State) : Host.Outcome State Fault Refusal :=
  .next (s.offer ⟨0x15, tag, body⟩)

/-- WALK (R9). -/
def execWalk (tag : Byte) (body : List Byte) (s : State) : Host.Outcome State Fault Refusal :=
  .next (s.offer ⟨0x16, tag, body⟩)

/-- ORDER_POST (R23). -/
def execOrderPost (tag : Byte) (body : List Byte) (s : State) : Host.Outcome State Fault Refusal :=
  .next (s.offer ⟨0x20, tag, body⟩)

/-- ORDER_GET (R21). -/
def execOrderGet (tag : Byte) (body : List Byte) (s : State) : Host.Outcome State Fault Refusal :=
  .next (s.offer ⟨0x21, tag, body⟩)

/-- ORDER_CANCEL (R24). -/
def execOrderCancel (tag : Byte) (body : List Byte) (s : State) : Host.Outcome State Fault Refusal :=
  .next (s.offer ⟨0x22, tag, body⟩)

/-- ORDER_END (R42). -/
def execOrderEnd (tag : Byte) (body : List Byte) (s : State) : Host.Outcome State Fault Refusal :=
  .next (s.offer ⟨0x23, tag, body⟩)

/-- BAY_OPEN (R30). -/
def execBayOpen (tag : Byte) (body : List Byte) (s : State) : Host.Outcome State Fault Refusal :=
  .next (s.offer ⟨0x28, tag, body⟩)

/-- BAY_CLOSE (R31). -/
def execBayClose (tag : Byte) (body : List Byte) (s : State) : Host.Outcome State Fault Refusal :=
  .next (s.offer ⟨0x29, tag, body⟩)

/-- BAY_GET (R29). -/
def execBayGet (tag : Byte) (body : List Byte) (s : State) : Host.Outcome State Fault Refusal :=
  .next (s.offer ⟨0x2A, tag, body⟩)

/-- HOLD_SET (R43). -/
def execHoldSet (tag : Byte) (body : List Byte) (s : State) : Host.Outcome State Fault Refusal :=
  .next (s.offer ⟨0x2B, tag, body⟩)

/-- HOLD_CLEAR (R43). -/
def execHoldClear (tag : Byte) (body : List Byte) (s : State) : Host.Outcome State Fault Refusal :=
  .next (s.offer ⟨0x2C, tag, body⟩)

/-- AUTH_GRANT (R35). -/
def execAuthGrant (tag : Byte) (body : List Byte) (s : State) : Host.Outcome State Fault Refusal :=
  .next (s.offer ⟨0x2D, tag, body⟩)

/-- AUTH_DENY (R36). -/
def execAuthDeny (tag : Byte) (body : List Byte) (s : State) : Host.Outcome State Fault Refusal :=
  .next (s.offer ⟨0x2E, tag, body⟩)

/-- REFERRAL_LIST (R34). -/
def execReferralList (tag : Byte) (body : List Byte) (s : State) : Host.Outcome State Fault Refusal :=
  .next (s.offer ⟨0x2F, tag, body⟩)

/-- ARM_SET (R52). -/
def execArmSet (tag : Byte) (body : List Byte) (s : State) : Host.Outcome State Fault Refusal :=
  .next (s.offer ⟨0x30, tag, body⟩)

/-- ARM_GET (R52). -/
def execArmGet (tag : Byte) (body : List Byte) (s : State) : Host.Outcome State Fault Refusal :=
  .next (s.offer ⟨0x31, tag, body⟩)

/-- ARM_START (R60). -/
def execArmStart (tag : Byte) (body : List Byte) (s : State) : Host.Outcome State Fault Refusal :=
  .next (s.offer ⟨0x32, tag, body⟩)

/-- ARM_STOP (R77). -/
def execArmStop (tag : Byte) (body : List Byte) (s : State) : Host.Outcome State Fault Refusal :=
  .next (s.offer ⟨0x33, tag, body⟩)

/-- ARM_CLEAR (R78). -/
def execArmClear (tag : Byte) (body : List Byte) (s : State) : Host.Outcome State Fault Refusal :=
  .next (s.offer ⟨0x34, tag, body⟩)

/-- PROFILE_LOAD (R112). -/
def execProfileLoad (tag : Byte) (body : List Byte) (s : State) : Host.Outcome State Fault Refusal :=
  .next (s.offer ⟨0x40, tag, body⟩)

/-- PROFILE_READ (R115). -/
def execProfileRead (tag : Byte) (body : List Byte) (s : State) : Host.Outcome State Fault Refusal :=
  .next (s.offer ⟨0x41, tag, body⟩)

/-- PROFILE_DROP (R114). -/
def execProfileDrop (tag : Byte) (body : List Byte) (s : State) : Host.Outcome State Fault Refusal :=
  .next (s.offer ⟨0x42, tag, body⟩)

/-- PROFILE_LIST (R115). -/
def execProfileList (tag : Byte) (body : List Byte) (s : State) : Host.Outcome State Fault Refusal :=
  .next (s.offer ⟨0x43, tag, body⟩)

/-- WANT_LIST (R110). -/
def execWantList (tag : Byte) (body : List Byte) (s : State) : Host.Outcome State Fault Refusal :=
  .next (s.offer ⟨0x44, tag, body⟩)

/-- RECIPE_PUT (R122). -/
def execRecipePut (tag : Byte) (body : List Byte) (s : State) : Host.Outcome State Fault Refusal :=
  .next (s.offer ⟨0x50, tag, body⟩)

/-- RECIPE_GET (R123). -/
def execRecipeGet (tag : Byte) (body : List Byte) (s : State) : Host.Outcome State Fault Refusal :=
  .next (s.offer ⟨0x51, tag, body⟩)

/-- RECIPE_RETIRE (R123). -/
def execRecipeRetire (tag : Byte) (body : List Byte) (s : State) : Host.Outcome State Fault Refusal :=
  .next (s.offer ⟨0x52, tag, body⟩)

/-- RECIPE_LIST (R123). -/
def execRecipeList (tag : Byte) (body : List Byte) (s : State) : Host.Outcome State Fault Refusal :=
  .next (s.offer ⟨0x53, tag, body⟩)

/-- INJECTOR_SET (R126). -/
def execInjectorSet (tag : Byte) (body : List Byte) (s : State) : Host.Outcome State Fault Refusal :=
  .next (s.offer ⟨0x58, tag, body⟩)

/-- INJECTOR_SHOT (R127). -/
def execInjectorShot (tag : Byte) (body : List Byte) (s : State) : Host.Outcome State Fault Refusal :=
  .next (s.offer ⟨0x59, tag, body⟩)

/-- INJECTOR_CLEAR (R128). -/
def execInjectorClear (tag : Byte) (body : List Byte) (s : State) : Host.Outcome State Fault Refusal :=
  .next (s.offer ⟨0x5A, tag, body⟩)

/-- INJECTOR_GET (R129). -/
def execInjectorGet (tag : Byte) (body : List Byte) (s : State) : Host.Outcome State Fault Refusal :=
  .next (s.offer ⟨0x5B, tag, body⟩)

/-- QUEUE_LIST (R132). -/
def execQueueList (tag : Byte) (body : List Byte) (s : State) : Host.Outcome State Fault Refusal :=
  .next (s.offer ⟨0x5C, tag, body⟩)

/-- NOTE_PEEK (R157). -/
def execNotePeek (tag : Byte) (body : List Byte) (s : State) : Host.Outcome State Fault Refusal :=
  .next (s.offer ⟨0x60, tag, body⟩)

/-- NOTE_TAKE (R158). -/
def execNoteTake (tag : Byte) (body : List Byte) (s : State) : Host.Outcome State Fault Refusal :=
  .next (s.offer ⟨0x61, tag, body⟩)

/-- NOTE_LIST (R159). -/
def execNoteList (tag : Byte) (body : List Byte) (s : State) : Host.Outcome State Fault Refusal :=
  .next (s.offer ⟨0x62, tag, body⟩)

/-- SERIAL_SET (R160). -/
def execSerialSet (tag : Byte) (body : List Byte) (s : State) : Host.Outcome State Fault Refusal :=
  .next (s.offer ⟨0x63, tag, body⟩)

/-- CLOCK_SET (R165). -/
def execClockSet (tag : Byte) (body : List Byte) (s : State) : Host.Outcome State Fault Refusal :=
  .next (s.offer ⟨0x70, tag, body⟩)

/-- CLOCK_GET (R165). -/
def execClockGet (tag : Byte) (body : List Byte) (s : State) : Host.Outcome State Fault Refusal :=
  .next (s.offer ⟨0x71, tag, body⟩)

/-- ATTENTION_READ (R171). -/
def execAttentionRead (tag : Byte) (body : List Byte) (s : State) : Host.Outcome State Fault Refusal :=
  .next (s.offer ⟨0x72, tag, body⟩)

/-- ATTENTION_EDGES (R168). -/
def execAttentionEdges (tag : Byte) (body : List Byte) (s : State) : Host.Outcome State Fault Refusal :=
  .next (s.offer ⟨0x73, tag, body⟩)

/-- MODE_SET (R174). -/
def execModeSet (tag : Byte) (body : List Byte) (s : State) : Host.Outcome State Fault Refusal :=
  .next (s.offer ⟨0x78, tag, body⟩)

/-- SEAL_SET (R179). -/
def execSealSet (tag : Byte) (body : List Byte) (s : State) : Host.Outcome State Fault Refusal :=
  .next (s.offer ⟨0x79, tag, body⟩)

/-- SETTINGS_GET (R184). -/
def execSettingsGet (tag : Byte) (body : List Byte) (s : State) : Host.Outcome State Fault Refusal :=
  .next (s.offer ⟨0x7A, tag, body⟩)

/-- LINK_GET (R193). -/
def execLinkGet (tag : Byte) (body : List Byte) (s : State) : Host.Outcome State Fault Refusal :=
  .next (s.offer ⟨0x7B, tag, body⟩)

/-- RESTART (R182). -/
def execRestart (tag : Byte) (body : List Byte) (s : State) : Host.Outcome State Fault Refusal :=
  .next (s.offer ⟨0x7E, tag, body⟩)

end Sys2Proof.Machine
end

