-- ==== Sys2Proof/Machine/Dispatch.lean ====
section
/-! DEFINITION. The dispatch of every command to its meaning, one arm per constructor. -/

namespace Sys2Proof.Machine

def exec (i : Instr) (s : State) : Host.Outcome State Fault Refusal :=
  match i with
  | .powerOnReset pins => Sys2Proof.Machine.execPowerOnReset pins s
  | .restartInput => Sys2Proof.Machine.execRestartInput s
  | .receiveByte byte framingError => Sys2Proof.Machine.execReceiveByte byte framingError s
  | .gapTimerExpiry => Sys2Proof.Machine.execGapTimerExpiry s
  | .responseSent => Sys2Proof.Machine.execResponseSent s
  | .unknownRequest kind tag body => Sys2Proof.Machine.execUnknownRequest kind tag body s
  | .permitPut tag body => Sys2Proof.Machine.execPermitPut tag body s
  | .permitGet tag body => Sys2Proof.Machine.execPermitGet tag body s
  | .permitSuspend tag body => Sys2Proof.Machine.execPermitSuspend tag body s
  | .permitResume tag body => Sys2Proof.Machine.execPermitResume tag body s
  | .permitUnlock tag body => Sys2Proof.Machine.execPermitUnlock tag body s
  | .permitRetire tag body => Sys2Proof.Machine.execPermitRetire tag body s
  | .walk tag body => Sys2Proof.Machine.execWalk tag body s
  | .orderPost tag body => Sys2Proof.Machine.execOrderPost tag body s
  | .orderGet tag body => Sys2Proof.Machine.execOrderGet tag body s
  | .orderCancel tag body => Sys2Proof.Machine.execOrderCancel tag body s
  | .orderEnd tag body => Sys2Proof.Machine.execOrderEnd tag body s
  | .bayOpen tag body => Sys2Proof.Machine.execBayOpen tag body s
  | .bayClose tag body => Sys2Proof.Machine.execBayClose tag body s
  | .bayGet tag body => Sys2Proof.Machine.execBayGet tag body s
  | .holdSet tag body => Sys2Proof.Machine.execHoldSet tag body s
  | .holdClear tag body => Sys2Proof.Machine.execHoldClear tag body s
  | .authGrant tag body => Sys2Proof.Machine.execAuthGrant tag body s
  | .authDeny tag body => Sys2Proof.Machine.execAuthDeny tag body s
  | .referralList tag body => Sys2Proof.Machine.execReferralList tag body s
  | .armSet tag body => Sys2Proof.Machine.execArmSet tag body s
  | .armGet tag body => Sys2Proof.Machine.execArmGet tag body s
  | .armStart tag body => Sys2Proof.Machine.execArmStart tag body s
  | .armStop tag body => Sys2Proof.Machine.execArmStop tag body s
  | .armClear tag body => Sys2Proof.Machine.execArmClear tag body s
  | .profileLoad tag body => Sys2Proof.Machine.execProfileLoad tag body s
  | .profileRead tag body => Sys2Proof.Machine.execProfileRead tag body s
  | .profileDrop tag body => Sys2Proof.Machine.execProfileDrop tag body s
  | .profileList tag body => Sys2Proof.Machine.execProfileList tag body s
  | .wantList tag body => Sys2Proof.Machine.execWantList tag body s
  | .recipePut tag body => Sys2Proof.Machine.execRecipePut tag body s
  | .recipeGet tag body => Sys2Proof.Machine.execRecipeGet tag body s
  | .recipeRetire tag body => Sys2Proof.Machine.execRecipeRetire tag body s
  | .recipeList tag body => Sys2Proof.Machine.execRecipeList tag body s
  | .injectorSet tag body => Sys2Proof.Machine.execInjectorSet tag body s
  | .injectorShot tag body => Sys2Proof.Machine.execInjectorShot tag body s
  | .injectorClear tag body => Sys2Proof.Machine.execInjectorClear tag body s
  | .injectorGet tag body => Sys2Proof.Machine.execInjectorGet tag body s
  | .queueList tag body => Sys2Proof.Machine.execQueueList tag body s
  | .notePeek tag body => Sys2Proof.Machine.execNotePeek tag body s
  | .noteTake tag body => Sys2Proof.Machine.execNoteTake tag body s
  | .noteList tag body => Sys2Proof.Machine.execNoteList tag body s
  | .serialSet tag body => Sys2Proof.Machine.execSerialSet tag body s
  | .clockSet tag body => Sys2Proof.Machine.execClockSet tag body s
  | .clockGet tag body => Sys2Proof.Machine.execClockGet tag body s
  | .attentionRead tag body => Sys2Proof.Machine.execAttentionRead tag body s
  | .attentionEdges tag body => Sys2Proof.Machine.execAttentionEdges tag body s
  | .modeSet tag body => Sys2Proof.Machine.execModeSet tag body s
  | .sealSet tag body => Sys2Proof.Machine.execSealSet tag body s
  | .settingsGet tag body => Sys2Proof.Machine.execSettingsGet tag body s
  | .linkGet tag body => Sys2Proof.Machine.execLinkGet tag body s
  | .restart tag body => Sys2Proof.Machine.execRestart tag body s
  | .malformedPanelFrame bay => Sys2Proof.Machine.execMalformedPanelFrame bay s
  | .card bay cardId => Sys2Proof.Machine.execCard bay cardId s
  | .start bay arm compartment => Sys2Proof.Machine.execStart bay arm compartment s
  | .stop bay arm => Sys2Proof.Machine.execStop bay arm s
  | .endVisit bay => Sys2Proof.Machine.execEndVisit bay s
  | .permissiveChange bay input healthy => Sys2Proof.Machine.execPermissiveChange bay input healthy s
  | .meterPulse arm channel => Sys2Proof.Machine.execMeterPulse arm channel s
  | .sampleFrame arm value intact => Sys2Proof.Machine.execSampleFrame arm value intact s
  | .freshnessTimerExpiry arm => Sys2Proof.Machine.execFreshnessTimerExpiry arm s
  | .confirmEdge injector => Sys2Proof.Machine.execConfirmEdge injector s
  | .confirmTimerExpiry injector => Sys2Proof.Machine.execConfirmTimerExpiry injector s
  | .injectorFault injector cause => Sys2Proof.Machine.execInjectorFault injector cause s
  | .calAssertion => Sys2Proof.Machine.execCalAssertion s
  | .calRelease => Sys2Proof.Machine.execCalRelease s
  | .minuteTimerExpiry => Sys2Proof.Machine.execMinuteTimerExpiry s
  | .referralTimerExpiry bay => Sys2Proof.Machine.execReferralTimerExpiry bay s
  | .cardIdleTimerExpiry bay => Sys2Proof.Machine.execCardIdleTimerExpiry bay s
  | .holdWindowExpiry bay => Sys2Proof.Machine.execHoldWindowExpiry bay s
  | .wantTimerExpiry arm => Sys2Proof.Machine.execWantTimerExpiry arm s
  | .injectorWaitTimerExpiry arm => Sys2Proof.Machine.execInjectorWaitTimerExpiry arm s
  | .meteringPeriodExpiry arm => Sys2Proof.Machine.execMeteringPeriodExpiry arm s
  | .flowEnd arm => Sys2Proof.Machine.execFlowEnd arm s
  | .leak arm => Sys2Proof.Machine.execLeak arm s
  | .noFlow arm => Sys2Proof.Machine.execNoFlow arm s
  | .tempFault arm => Sys2Proof.Machine.execTempFault arm s
  | .meterFault arm => Sys2Proof.Machine.execMeterFault arm s

end Sys2Proof.Machine
end

