-- ==== Sys2Proof/Machine/Timers.lean ====
section
/-! DEFINITION. The passing of time: when no command waits, one step is one millisecond (log 2). Every running timer counts
down, and those that reach 0 queue their expiry commands in a fixed order. -/

namespace Sys2Proof.Machine

/-- A timer one millisecond later. -/
def later (t : Option Nat) : Option Nat := t.map (· - 1)

/-- A timer runs out in this millisecond. -/
def due (t : Option Nat) : Bool := t == some 1

def Segment.later (g : Segment) : Segment :=
  { g with
    wantTimer := Machine.later g.wantTimer
    injectorTimer := Machine.later g.injectorTimer
    periodTimer := Machine.later g.periodTimer }

def Arm.later (x : Arm) : Arm := Arm.modSeg Segment.later { x with freshness := Machine.later x.freshness }

def Bay.later (x : Bay) : Bay :=
  { x with
    holdWindow := Machine.later x.holdWindow
    referralTimer := Machine.later x.referralTimer
    cardIdleTimer := Machine.later x.cardIdleTimer }

def Injector.later (x : Injector) : Injector := { x with confirmTimer := Machine.later x.confirmTimer }

/-- A command when a timer is due. -/
def whenDue (t : Option Nat) (i : Instr) : List Instr := if due t then [i] else []

/-- The expiry commands of the timers that run out in this millisecond, in a fixed order (log 2). -/
def State.expiries (s : State) : List Instr :=
  whenDue s.link.gapTimer .gapTimerExpiry
    ++ whenDue (some s.clock.minuteTimer) .minuteTimerExpiry
    ++ (allBays.flatMap fun b =>
        whenDue (s.bay b).referralTimer (.referralTimerExpiry b)
          ++ whenDue (s.bay b).cardIdleTimer (.cardIdleTimerExpiry b)
          ++ whenDue (s.bay b).holdWindow (.holdWindowExpiry b))
    ++ (allArms.flatMap fun a =>
        whenDue (s.arm a).freshness (.freshnessTimerExpiry a)
          ++ whenDue ((s.seg? a).bind (·.wantTimer)) (.wantTimerExpiry a)
          ++ whenDue ((s.seg? a).bind (·.injectorTimer)) (.injectorWaitTimerExpiry a)
          ++ whenDue ((s.seg? a).bind (·.periodTimer)) (.meteringPeriodExpiry a))
    ++ allInjectors.flatMap fun j => whenDue (s.injector j).confirmTimer (.confirmTimerExpiry j)

/-- One millisecond passes. -/
def State.tick (s : State) : State :=
  { s with
    bays := s.bays.map Bay.later
    arms := s.arms.map Arm.later
    dosing := { s.dosing with injectors := s.dosing.injectors.map Injector.later }
    clock := { s.clock with minuteTimer := s.clock.minuteTimer - 1 }
    link := { s.link with gapTimer := later s.link.gapTimer }
    pending := s.pending ++ s.expiries }

end Sys2Proof.Machine
end

