-- ==== Sys2Proof/Safety.lean ====
section
/-! DEFINITION. The terms the statements use: when the rack link takes a request at once, an answered request, runs of
commands, what a well-kept table is (the invariants of R1, R18, R21, R34, R53, R54, R103, R121, R125, R159, R163, R179, R186,
R193), what the want and referral lists and the note slots mark (R168), what a closed visit leaves (R28), what a segment's end
leaves, uncounted or counted (R74, R153), what an accepted start does (R59, R61, R64, R130), what a restoration brings (R45), and
what a grant and a fault do to the segment that holds the injector (R131, R139). -/

namespace Sys2Proof.Machine

/-! ## The rack link -/

/-- No frame waits, the outbound list has room and holds no RESTART response: a request is taken in the event in which its
frame is complete (R188, R189). -/
def State.linkIdle (s : State) : Prop := s.link.inbound = [] ∧ s.link.mayTake = true

/-- The state with the response to a request at the end of its outbound list. -/
def State.answered (kind tag : Byte) (body : List Byte) (a : Answer) (s : State) : State := s.respond ⟨kind, tag, body⟩ a

/-- Kinds whose bodies carry no count, with the length of the body (R194). -/
def fixedShapes : List (Byte × Nat) :=
  [(0x10, 17), (0x11, 4), (0x12, 4), (0x13, 4), (0x14, 4), (0x15, 4), (0x16, 4), (0x21, 4), (0x22, 4), (0x23, 4),
   (0x28, 1), (0x29, 1), (0x2A, 1), (0x2B, 2), (0x2C, 2), (0x2D, 5), (0x2E, 1), (0x2F, 0), (0x31, 1), (0x32, 3),
   (0x33, 1), (0x34, 1), (0x41, 4), (0x42, 4), (0x43, 0), (0x44, 0), (0x51, 1), (0x52, 1), (0x53, 0), (0x59, 5),
   (0x5A, 1), (0x5B, 1), (0x5C, 1), (0x60, 2), (0x61, 2), (0x62, 0), (0x63, 4), (0x70, 4), (0x71, 0), (0x72, 0),
   (0x73, 2), (0x78, 1), (0x79, 3), (0x7A, 0), (0x7B, 0)]

/-- Commands one after the other, stopping at the first that does not answer a next state. -/
def runAll : List Instr → State → Host.Outcome State Fault Refusal
  | [], s => .next s
  | c :: cs, s =>
    match exec c s with
    | .next t => runAll cs t
    | .fault r => .fault r
    | .refused r => .refused r

/-! ## Well-kept tables -/

/-- The permit table: at most 512 records, one per card, strikes 0..3, a permit with 3 strikes LOCKED or RETIRING, used_L
within its range (R1, R16, R18). R1 gives the table no order: that it stands in ascending card order is the model's choice
(log 13). -/
def PermitsKept (s : State) : Prop :=
  s.permits.Pairwise (fun p q => p.card < q.card) ∧ s.permits.length ≤ 512
    ∧ ∀ p ∈ s.permits, p.strikes ≤ 3 ∧ p.used ≤ 9999999 ∧ (p.strikes = 3 → p.state = .locked ∨ p.state = .retiring)

/-- The order table: at most 64 orders, no two with one order number (R21). -/
def OrdersKept (s : State) : Prop := (s.orders.map (·.orderNo)).Nodup ∧ s.orders.length ≤ 64

/-- The receiver with its gap timer, the two queues and the six counts (R186, R188, R191, R193). -/
def LinkKept (s : State) : Prop :=
  s.link.inbound.length ≤ 2 ∧ s.link.outbound.length ≤ 4
    ∧ (match s.link.receiver with
       | .hunt => s.link.gapTimer = none
       | .length => s.link.gapTimer.isSome
       | .collect len got => s.link.gapTimer.isSome ∧ 2 ≤ len.toNat ∧ len.toNat ≤ 250 ∧ got.length ≤ len.toNat)
    ∧ s.link.lengthErrors ≤ 4294967295 ∧ s.link.gapErrors ≤ 4294967295 ∧ s.link.lineErrors ≤ 4294967295
    ∧ s.link.checkErrors ≤ 4294967295 ∧ s.link.busyCount ≤ 4294967295 ∧ s.link.dropCount ≤ 4294967295

/-- An arm's claim: none in IDLE and FAULT; in SEGMENT the bay of the segment, in RESUME_WAIT some bay, and that bay is in
the arm's reach (R53, R54). -/
def Arm.claimKept (x : Arm) : Prop :=
  match x.status with
  | .idle => x.claim = none
  | .fault => x.claim = none
  | .segment g => x.claim = some g.bay ∧ g.bay ∈ x.reach
  | .resumeWait _ _ => ∃ b, x.claim = some b ∧ b ∈ x.reach

/-- Every arm's claim is kept (R53, R54). -/
def ClaimsKept (s : State) : Prop := ∀ a, (s.arm a).claimKept

/-- An injector record: its configuration in range, a stroke firing exactly while its confirm timer runs and only in CLAIMED
or RELEASING, nothing queued or accumulated outside CLAIMED, the claimant its state asks for, misses and strays short of
the limit outside FAULT (R125, R135, R137, R138, R139, R141). -/
def Injector.kept (x : Injector) : Prop :=
  1 ≤ x.cls ∧ x.cls ≤ 15 ∧ x.reach.length ≤ 8 ∧ 100 ≤ x.shotUl ∧ x.shotUl ≤ 1000000
    ∧ x.firing = x.confirmTimer.isSome
    ∧ x.misses ≤ 3 ∧ x.strays ≤ 5
    ∧ (x.state ≠ .fault → x.misses ≤ 2 ∧ x.strays ≤ 4)
    ∧ (x.state ≠ .claimed → x.queued = false ∧ x.accNl = 0)
    ∧ (x.state ≠ .claimed → x.state ≠ .releasing → x.firing = false)
    ∧ (x.state = .releasing → x.firing = true)
    ∧ (x.state = .claimed → x.claimant.isSome)
    ∧ (x.state ≠ .claimed → x.state ≠ .fault → x.claimant = none)

/-- Every injector record is kept (R125). -/
def InjectorsKept (s : State) : Prop := ∀ j, (s.injector j).kept

/-- The sealed list holds exactly the SEALED slots, each once (R155, R158, R159). -/
def SealedListKept (s : State) : Prop :=
  s.notes.sealedList.Nodup ∧ ∀ k : SlotId, k ∈ s.notes.sealedList ↔ (s.slot k).level = true

/-- The clock, the sealed settings and the counts in their ranges (R163, R179, R180, R181). -/
def SettingsKept (s : State) : Prop :=
  s.clock.day ≤ 65535 ∧ s.clock.minute ≤ 1439 ∧ s.clock.minuteTimer ≤ 60000
    ∧ (s.settings.tref = 1500 ∨ s.settings.tref = 2000)
    ∧ 1 ≤ s.settings.fidelityLimit ∧ s.settings.fidelityLimit ≤ 1000
    ∧ s.settings.sealCount ≤ 65535 ∧ s.settings.restartCount ≤ 65535

/-- The recipe table: at most 32 recipes, one per id, each of 1 to 3 components of different classes, in range (R121, R122).
R121 gives the table no order: that it stands in ascending id is the model's choice (log 13). -/
def RecipesKept (s : State) : Prop :=
  s.dosing.recipes.Pairwise (fun p q => p.id < q.id) ∧ s.dosing.recipes.length ≤ 32
    ∧ ∀ r ∈ s.dosing.recipes, 1 ≤ r.id ∧ r.id ≤ 255 ∧ 1 ≤ r.components.length ∧ r.components.length ≤ 3
        ∧ (r.components.map (·.cls)).Nodup ∧ ∀ c ∈ r.components, 1 ≤ c.cls ∧ c.cls ≤ 15 ∧ 1 ≤ c.dose ∧ c.dose ≤ 20000

/-- A bay that has a visit (R29). -/
def BayState.visited : BayState → Bool
  | .carded => true
  | .loading => true
  | .hold => true
  | .tripped => true
  | .ending => true
  | .closed => false
  | .idle => false
  | .authorizing => false

/-- An order that is not POSTED stands at one bay, which records it, and its card's permit is bound to it; a POSTED one stands
at none (R11, R21, R26). -/
def OrderStands (o : Order) (s : State) : Prop :=
  if o.state = .posted then o.bay = none ∧ o.noteSlot = none
  else (∃ b, o.bay = some b ∧ (s.bay b).boundOrder = some o.orderNo)
    ∧ ∃ p, s.permit? o.card = some p ∧ p.boundOrder = some o.orderNo

/-- Visits: a bay has a bound order exactly in the states of a visit; every order stands where the bays and permits say; every
RESERVED or OPEN note is that of its LOADING order; and the referral list holds exactly the AUTHORIZING bays, each once
(R11, R21, R26, R29, R34, R150). One permit per card is said by the ascending card order of the table, which is the model's choice
(log 13). -/
def VisitsKept (s : State) : Prop :=
  (s.orders.map (·.orderNo)).Nodup ∧ s.permits.Pairwise (fun p q => p.card < q.card)
    ∧ (∀ b, (s.bay b).boundOrder.isSome = (s.bay b).state.visited)
    ∧ (∀ b n, (s.bay b).boundOrder = some n → ∃ o, s.order? n = some o ∧ o.state ≠ .posted ∧ o.bay = some b)
    ∧ (∀ p ∈ s.permits, ∀ n, p.boundOrder = some n → ∃ o, s.order? n = some o ∧ o.state ≠ .posted ∧ o.card = p.card)
    ∧ (∀ o ∈ s.orders, OrderStands o s)
    ∧ (∀ o ∈ s.orders, ∀ k, o.noteSlot = some k → o.state = .loading
        ∧ ∃ n, (s.slot k = .reserved n ∨ s.slot k = .opened n) ∧ n.orderNo = o.orderNo ∧ n.card = o.card)
    ∧ (∀ k n, s.slot k = .reserved n ∨ s.slot k = .opened n → ∃ o, s.order? n.orderNo = some o ∧ o.noteSlot = some k)
    ∧ (s.referrals.map (·.bay)).Nodup ∧ ∀ b, b ∈ s.referrals.map (·.bay) ↔ (s.bay b).state = .authorizing

/-- The profile cache: the recency list holds exactly the valid slots, each once; one entry for a tag, a dropping one aside; an
entry's pin count is 1 while a segment holds it and 0 otherwise, and only a pinned entry is dropping; a segment holds an entry
of its own arm's meter; and the wants are those of the segments whose want timer runs, which hold no entry, one for an arm
(R103, R105, R106, R108, R109, R114). -/
def CacheKept (s : State) : Prop :=
  s.cache.recency.Nodup ∧ (∀ e, e ∈ s.cache.recency ↔ (s.entry e).isSome = true)
    ∧ (∀ e f x y, s.entry e = some x → s.entry f = some y → x.meter = y.meter → x.base = y.base → x.span = y.span →
        x.dropping = false → y.dropping = false → e = f)
    ∧ (∀ e x, s.entry e = some x → x.pinCount ≤ 1 ∧ (x.pinCount = 1 ↔ ∃ a g, s.seg? a = some g ∧ g.entry = some e)
        ∧ (x.dropping = true → x.pinCount = 1))
    ∧ (∀ a g e, s.seg? a = some g → g.entry = some e → ∃ x, s.entry e = some x ∧ x.meter = a.val)
    ∧ (s.cache.wants.map (·.arm)).Nodup
    ∧ (∀ w ∈ s.cache.wants, w.meter = w.arm.val ∧ ∃ g, s.seg? w.arm = some g ∧ g.entry = none ∧ g.wantTimer.isSome = true)
    ∧ ∀ a g, s.seg? a = some g → g.wantTimer.isSome = true → ∃ w ∈ s.cache.wants, w.arm = a

/-! ## Frames -/

/-- The parts of State. -/
inductive Part where
  | permits | orders | referrals | bays | arms | cache | dosing | notes | clock | att | settings | link | outputs | pending
  deriving DecidableEq, Repr

/-- Every part but those listed is as before. -/
def SameExcept (ps : List Part) (s t : State) : Prop :=
  (.permits ∈ ps ∨ t.permits = s.permits) ∧ (.orders ∈ ps ∨ t.orders = s.orders)
    ∧ (.referrals ∈ ps ∨ t.referrals = s.referrals) ∧ (.bays ∈ ps ∨ t.bays = s.bays) ∧ (.arms ∈ ps ∨ t.arms = s.arms)
    ∧ (.cache ∈ ps ∨ t.cache = s.cache) ∧ (.dosing ∈ ps ∨ t.dosing = s.dosing) ∧ (.notes ∈ ps ∨ t.notes = s.notes)
    ∧ (.clock ∈ ps ∨ t.clock = s.clock) ∧ (.att ∈ ps ∨ t.att = s.att) ∧ (.settings ∈ ps ∨ t.settings = s.settings)
    ∧ (.link ∈ ps ∨ t.link = s.link) ∧ (.outputs ∈ ps ∨ t.outputs = s.outputs) ∧ (.pending ∈ ps ∨ t.pending = s.pending)

/-- Every other bay is as before. -/
def OtherBays (b : BayId) (s t : State) : Prop := ∀ c, c ≠ b → t.bay c = s.bay c

/-- Every other arm is as before. -/
def OtherArms (a : ArmId) (s t : State) : Prop := ∀ c, c ≠ a → t.arm c = s.arm c

/-- Every other injector is as before. -/
def OtherInjectors (j : InjId) (s t : State) : Prop := ∀ i, i ≠ j → t.injector i = s.injector i

/-- Every other card's permit is as before. -/
def OtherPermits (card : Nat) (s t : State) : Prop := ∀ c, c ≠ card → t.permit? c = s.permit? c

/-- Every other order is as before. -/
def OtherOrders (no : Nat) (s t : State) : Prop := ∀ n, n ≠ no → t.order? n = s.order? n

/-! ## Attention marks -/

/-- A mark after its source's level goes from `old` to `new` under its kind's edge selection: an onset sets it unless clearances
alone are selected, a clearance unless onsets alone are, and no change clears it (R168). -/
def markAfter (sel : Edge) (old new mark : Bool) : Bool :=
  mark || (!old && new && decide (sel ≠ .clearance)) || (old && !new && decide (sel ≠ .onset))

/-- The want list's mark follows its level: wants stand on it (R109, R167, R168). -/
def WantMarked (s t : State) : Prop :=
  t.att.wantMark = markAfter s.att.edges.want (s.cache.wants != []) (t.cache.wants != []) s.att.wantMark

/-- The referral list's mark follows its level: referrals stand on it (R34, R167, R168). -/
def ReferralMarked (s t : State) : Prop :=
  t.att.referralMark = markAfter s.att.edges.referral (s.referrals != []) (t.referrals != []) s.att.referralMark

/-- The attention unit is as before but for the marks of some sources. -/
def OnlyMarks (srcs : List Source) (s t : State) : Prop :=
  t.att.edges = s.att.edges ∧ t.att.occurrences = s.att.occurrences
    ∧ ∀ src, src ∉ srcs → t.att.marked src = s.att.marked src

/-! ## What a closed visit leaves -/

/-- What an unbind leaves of a permit: its binding cleared, the record removed when RETIRING (R11). -/
def unbound (p : Permit) : Option Permit := if p.state = .retiring then none else some { p with boundOrder := none }

/-- A note as its sealing leaves it (R155). -/
def sealedNote (n : Note) (o : Order) (c : Clock) : Note :=
  { n with
    lines := n.lines.map fun l => { l with finalState := (o.line? l.compartment).map (·.state) }
    closedByRestart := false
    sealedAt := some ⟨c.day, c.minute⟩ }

/-- The bay, the order, the permit, the arms and the note after the close of a visit outside a restart, the mark of the slot that
it seals, and all else as before (R28, R154, R155, R168). -/
def VisitClosed (b : BayId) (o : Order) (s t : State) : Prop :=
  t.orders = s.orders.filter (fun q => q.orderNo != o.orderNo)
    ∧ (∃ serial, t.bay b = { s.bay b with
          state := if (s.bay b).closePending then .closed else .idle
          card := none, boundOrder := none, closePending := false, holdWindow := none, cardIdleTimer := none
          display := some (.done serial) }
        ∧ t.outputs = s.outputs ++ [.prompt b (.done serial)]
        ∧ (o.noteSlot = none → t.notes = s.notes ∧ serial = 0)
        ∧ (∀ k n, o.noteSlot = some k → s.slot k = .reserved n →
            t.notes = { s.notes with slots := s.notes.slots.set k.val .free k.isLt } ∧ serial = 0)
        ∧ (∀ k n, o.noteSlot = some k → s.slot k = .opened n →
            t.notes = { s.notes with
                slots := s.notes.slots.set k.val (.sealed (sealedNote n o s.clock)) k.isLt
                sealedList := s.notes.sealedList ++ [k] }
              ∧ serial = (n.opening.map (·.serial)).getD 0))
    ∧ (∀ a, t.arm a = if (s.arm a).waitsFor b then { s.arm a with status := .idle, claim := none } else s.arm a)
    ∧ (∀ p, s.permit? o.card = some p → t.permit? o.card = unbound p) ∧ OtherPermits o.card s t ∧ OtherBays b s t
    ∧ (∀ i : SlotId, t.att.slotMarks[i] = true ↔
        s.att.slotMarks[i] = true ∨ (o.noteSlot = some i ∧ ∃ n, s.slot i = .opened n))
    ∧ SameExcept [.permits, .orders, .bays, .arms, .notes, .att, .outputs] s t

/-! ## What a segment's close and end leave -/

/-- A segment of bay `b` stopped, or shut by a trip, by its phase: flowing takes the close command, PAUSING turns, CLOSING
goes on as it is (R70). -/
def shutAt (b : BayId) (cause : EndCause) (g : Segment) : Segment :=
  if g.bay ≠ b then g
  else match g.phase with
    | .pausing => { g with phase := .closing, endCause := some cause }
    | .closing => g
    | .awaitProfile => g
    | .awaitInjector => g
    | _ => { g with phase := .closing, endCause := some cause, closeRecorded := true, closeCounter := 0, zeroRun := 0 }

/-- An arm when its bay's visit is stopped or tripped: a wait for the bay is released, a segment of the bay is shut
(R31, R42, R47). -/
def armShut (b : BayId) (cause : EndCause) (x : Arm) : Arm :=
  if x.waitsFor b then { x with status := .idle, claim := none } else x.modSeg (shutAt b cause)

/-- What the release of a claim leaves of its injector (R141). -/
def claimReleased (x : Injector) : Injector :=
  match x.state with
  | .claimed => { x with state := if x.firing then .releasing else .idle, claimant := none, queued := false, accNl := 0 }
  | .fault => { x with claimant := none }
  | _ => x

/-- No other arm waits for an injector that the segment's claims hold: its release is granted to nobody (R131). -/
def NoWaiterFor (a : ArmId) (g : Segment) (s : State) : Prop :=
  ∀ k ∈ g.claims, ∀ w ∈ s.dosing.queue (s.injector k.injector).cls, w.arm = a ∨ w.arm ∉ (s.injector k.injector).reach

/-- An uncounted segment of the order bound at its bay, with its line and its permit. -/
def Uncounted (a : ArmId) (g : Segment) (o : Order) (l : Line) (p : Permit) (s : State) : Prop :=
  s.seg? a = some g ∧ g.counted = false ∧ g.net = 0 ∧ g.claims.length ≤ 3 ∧ NoWaiterFor a g s
    ∧ (s.bay g.bay).boundOrder = some g.orderNo ∧ s.order? g.orderNo = some o ∧ o.line? g.compartment = some l
    ∧ s.permit? o.card = some p ∧ p.used ≤ 9999999

/-- What the end of an uncounted segment leaves at its arm (in state `st` with claim `cl`), its line, its permit, the wants with
their mark and the queues, its pin and its claims (R27, R74, R75, R16, R108, R109, R132, R141, R168). -/
def UncountedEnd (a : ArmId) (g : Segment) (o : Order) (p : Permit) (cause : EndCause) (st : ArmStatus) (cl : Option BayId)
    (s t : State) : Prop :=
  t.arm a = { s.arm a with
      status := st, claim := cl, counterA := 0, counterB := 0
      lastEnd := some ⟨g.orderNo, g.compartment, g.origin, cause, false, g.gross, g.net⟩ }
    ∧ (t.att.occurrences[a]).ended = true ∧ t.att.armMarks[a] = true
    ∧ t.order? g.orderNo = some { o with lines := o.lines.map fun x =>
        if x.compartment = g.compartment then { x with state := if x.segmentsUsed = 0 then .opened else .part } else x }
    ∧ t.permit? o.card = some { p with reserved := p.reserved - g.reservation }
    ∧ OtherOrders g.orderNo s t ∧ OtherPermits o.card s t
    ∧ t.cache.wants = s.cache.wants.filter (fun w => w.arm != a) ∧ WantMarked s t
    ∧ (∀ c, t.dosing.queue c = (s.dosing.queue c).filter fun w => w.arm != a)
    ∧ (∀ e, t.entry e =
        if g.entry = some e then (s.entry e).bind fun x => if x.dropping then none else some { x with pinCount := 0 }
        else s.entry e)
    ∧ t.cache.recency = s.cache.recency.filter (fun e => !(g.entry == some e && (s.entry e).any (·.dropping)))
    ∧ (∀ j, t.injector j =
        if g.claims.any (fun k => k.injector == j) then claimReleased (s.injector j) else s.injector j)
    ∧ t.dosing.recipes = s.dosing.recipes

/-- The bay's lines that SELECT counts once the line of a compartment is OPEN or PART again (R38, R48). -/
def loadableWith (o : Order) (compartment : Nat) : Nat :=
  (o.lines.filter fun x => x.compartment == compartment || x.state == .opened || x.state == .part).length

/-- A segment other than the arm's own stands at a bay. -/
def OtherSegment (a : ArmId) (b : BayId) (s : State) : Prop := ∃ c h, c ≠ a ∧ s.seg? c = some h ∧ h.bay = b

/-- A LOADING bay after an uncounted end: STOPPED is prompted; without another segment the bay takes the CARDED entry
(R41, R38). -/
def BayAfterEnd (a : ArmId) (g : Segment) (o : Order) (cause : EndCause) (s t : State) : Prop :=
  let stopped : Output := .prompt g.bay (.stopped a cause)
  let select : Prompt := .select (loadableWith o g.compartment)
  (OtherSegment a g.bay s →
      t.bay g.bay = { s.bay g.bay with display := some (.stopped a cause) } ∧ t.outputs = s.outputs ++ [stopped])
    ∧ (¬ OtherSegment a g.bay s → (s.bay g.bay).permitted = true →
      t.bay g.bay = { s.bay g.bay with state := .carded, cardIdleTimer := some 600000, display := some select }
        ∧ t.outputs = s.outputs ++ [stopped, .prompt g.bay select])

/-- An arm's uncounted segment at a LOADING bay ends with its arm released; all else is as before. -/
def EndsUncounted (a : ArmId) (g : Segment) (cause : EndCause) (s t : State) : Prop :=
  ∃ o p, s.order? g.orderNo = some o ∧ s.permit? o.card = some p ∧ UncountedEnd a g o p cause .idle none s t
    ∧ (t.att.occurrences[a]).released = true ∧ BayAfterEnd a g o cause s t ∧ OtherArms a s t ∧ OtherBays g.bay s t
    ∧ SameExcept [.permits, .orders, .bays, .arms, .cache, .dosing, .att, .outputs] s t

/-- The state of a line after the counted end of a segment of it (R27). -/
def lineSettled (cause : EndCause) (trimmed : Bool) (l : Line) : LineState :=
  if cause = .closed ∧ trimmed = false then .filled
  else if cause = .overfill then .spent
  else if l.segmentsUsed = 4 then .spent
  else .part

/-- A permit after the charge of a counted end, with the strike of an OVERFILL end (R16, R18). -/
def charged (g : Segment) (cause : EndCause) (p : Permit) : Permit :=
  { p with
    reserved := p.reserved - g.reservation
    used := min 9999999 (p.used + (g.net + 500) / 1000)
    strikes := if cause = .overfill then min 3 (p.strikes + 1) else p.strikes
    state := if cause = .overfill ∧ 2 ≤ p.strikes ∧ (p.state = .active ∨ p.state = .suspended) then .locked else p.state }

/-- A counted segment, with its order, line, pinned entry and permit, whose period passes without a pulse: its totals stay as they
are, and every injector that it holds has settled. -/
def Quiet (a : ArmId) (g : Segment) (o : Order) (l : Line) (e : EntryId) (x : Entry) (p : Permit) (s : State) : Prop :=
  s.seg? a = some g ∧ g.periodTimer ≠ none ∧ g.counted = true ∧ (s.arm a).counterA = 0 ∧ (s.arm a).counterB = 0
    ∧ g.residueI < x.kn ∧ g.residueG < 100000 ∧ g.residueN < 1000000 ∧ g.indicated ≤ 4294967295 ∧ g.gross ≤ 4294967295
    ∧ g.net ≤ 4294967295 ∧ g.postClose ≤ 4294967295 ∧ g.sumGVT ≤ 4294967295
    ∧ s.order? g.orderNo = some o ∧ o.line? g.compartment = some l ∧ g.entry = some e ∧ s.entry e = some x
    ∧ s.permit? o.card = some p ∧ g.claims.length ≤ 3 ∧ NoWaiterFor a g s
    ∧ ∀ k ∈ g.claims, k.pacedMl ≤ 4294967295
        ∧ ((s.injector k.injector).state = .claimed → (s.injector k.injector).settle = s.injector k.injector)

/-- What a counted end leaves at its arm (in state `st`, released), its line, its permit, the wants and queues, the entry with its
learned advance and without its pin, and its claims (R27, R72, R74, R16, R18, R108, R109, R132, R141); the rest of the note store
but for the note of its order. -/
def CountedEnd (a : ArmId) (g : Segment) (o : Order) (e : EntryId) (x : Entry) (p : Permit) (cause : EndCause) (st : ArmStatus)
    (s t : State) : Prop :=
  t.arm a = { s.arm a with
      status := st, claim := none, counterA := 0, counterB := 0
      lastEnd := some ⟨g.orderNo, g.compartment, g.origin, cause, true, g.gross, g.net⟩ }
    ∧ (t.att.occurrences[a]).ended = true ∧ (t.att.occurrences[a]).released = true ∧ t.att.armMarks[a] = true
    ∧ t.order? g.orderNo = some { o with lines := o.lines.map fun y =>
        if y.compartment = g.compartment then { y with state := lineSettled cause g.trimmed y } else y }
    ∧ t.permit? o.card = some (charged g cause p)
    ∧ OtherOrders g.orderNo s t ∧ OtherPermits o.card s t
    ∧ t.cache.wants = s.cache.wants.filter (fun w => w.arm != a) ∧ WantMarked s t
    ∧ (∀ c, t.dosing.queue c = (s.dosing.queue c).filter fun w => w.arm != a)
    ∧ t.entry e = (if x.dropping then none else some { x with
        pinCount := 0
        closeAdvance := if cause = .closed then min 200000 ((3 * x.closeAdvance + g.postClose) / 4) else x.closeAdvance })
    ∧ (∀ f, f ≠ e → t.entry f = s.entry f)
    ∧ t.cache.recency = s.cache.recency.filter (fun f => !(f == e && x.dropping))
    ∧ (∀ j, t.injector j =
        if g.claims.any (fun k => k.injector == j) then claimReleased (s.injector j) else s.injector j)
    ∧ t.dosing.recipes = s.dosing.recipes
    ∧ (o.noteSlot = none → t.notes = s.notes)
    ∧ ∀ k, o.noteSlot = some k → (∀ i, i ≠ k → t.slot i = s.slot i) ∧ t.notes.sealedList = s.notes.sealedList
        ∧ t.notes.nextSerial = s.notes.nextSerial

/-- The bit that an end cause sets in the flags of a note line, if it sets one (R75, R153, R199). -/
def causeBit : EndCause → Option Nat
  | .estop => some 5
  | .overfill => some 6
  | .noFlow => some 7
  | .meterFault => some 8
  | .tempFault => some 9
  | .doseFault => some 10
  | .leak => some 11
  | .calSeal => some 12
  | .restart => some 13
  | .closed => none
  | .stopped => none
  | .hold => none
  | .profileTimeout => none
  | .injectorTimeout => none
  | .noRecipe => none
  | .serialSpent => none

/-- The additive entries of a line with the entry of a class updated, or appended with its update (R143). -/
def entryOf (cls : Nat) (f : Additive → Additive) (es : List Additive) : List Additive :=
  if es.any fun w => w.cls == cls then es.map fun w => if w.cls = cls then f w else w
  else es ++ [f ⟨cls, none, 0, 0, false, false, false⟩]

/-- An additive entry after the write-back of a claim on an injector (R143, R144). -/
def dosedUnder (k : Claim) (x : Injector) (w : Additive) : Additive :=
  let required := w.requiredUl + k.pacedMl * k.component.dose / 1000
  let dosed := w.dosedUl + x.confirmed * x.shotUl
  { w with
    injector := some k.injector, requiredUl := required, dosedUl := dosed, doseFault := w.doseFault || k.doseFault
    underdosed := decide (dosed * 100 < required * 95 ∧ dosed + x.shotUl ≤ required) }

/-- The additive entries of a line after a counted end: each component of the snapshot in turn, by its claim, or UNDOSED without
one (R143). -/
def additivesAfter (g : Segment) (s : State) (cs : List Component) (es : List Additive) : List Additive :=
  (cs.zipIdx 1).foldl (fun es q => match g.claims.find? (·.index == q.2) with
    | some k => entryOf q.1.cls (dosedUnder k (s.injector k.injector)) es
    | none => entryOf q.1.cls (fun w => { w with undosed := true }) es) es

/-- The OPEN note's line after the counted end of a quiet segment: its totals, sums, serial, flags and additive entries written
back (R73, R89, R143, R153, R199). -/
def WrittenBack (a : ArmId) (g : Segment) (o : Order) (l : Line) (x : Entry) (cause : EndCause) (s t : State) : Prop :=
  let sample := (s.arm a).freshness ≠ none ∧ ∃ v, (s.arm a).sample = some v ∧ -5000 ≤ v ∧ v ≤ 8000
  ∀ k n y, o.noteSlot = some k → s.slot k = .opened n → (n.lines.map (·.compartment)).Nodup → y ∈ n.lines →
    y.compartment = g.compartment → ∃ z : NoteLine,
    t.slot k = .opened { n with lines := n.lines.map fun w => if w.compartment = g.compartment then z else w }
    ∧ z = { y with
        indicated := min 4294967295 (y.indicated + g.indicated), gross := min 4294967295 (y.gross + g.gross)
        net := min 4294967295 (y.net + g.net), sumTGV := y.sumTGV + g.sumTGV
        sumGVT := min 4294967295 (y.sumGVT + g.sumGVT), calSerial := g.calSerial, flags := z.flags
        additives := additivesAfter g s (l.snapshot.getD []) y.additives }
    ∧ (z.flags.getLsbD 0 = true ↔ y.flags.getLsbD 0 = true
        ∨ g.presetMl + x.overrunTol < if l.basis = .gross then g.gross else g.net)
    ∧ (z.flags.getLsbD 1 = true ↔ y.flags.getLsbD 1 = true ∨ g.trimmed = true)
    ∧ (z.flags.getLsbD 2 = true ↔ y.flags.getLsbD 2 = true ∨ g.tempHeld = true ∨ (¬ sample ∧ g.lastTemp ≠ none))
    ∧ (z.flags.getLsbD 3 = true ↔ y.flags.getLsbD 3 = true ∨ g.uncompensated = true ∨ (¬ sample ∧ g.lastTemp = none))
    ∧ (z.flags.getLsbD 4 = true ↔ y.flags.getLsbD 4 = true ∨ g.mixedCal = true
        ∨ (y.calSerial ≠ none ∧ g.calSerial ≠ none ∧ y.calSerial ≠ g.calSerial))
    ∧ ∀ i, 5 ≤ i → (z.flags.getLsbD i = true ↔ y.flags.getLsbD i = true ∨ causeBit cause = some i)

/-! ## What an accepted start does -/

/-- The lowest-numbered FREE slot (R150). -/
def LowestFree (k : SlotId) (s : State) : Prop := s.slot k = .free ∧ ∀ i, i < k → s.slot i ≠ .free

/-- A start passes the checks of R56 but for those on the state of its bay and of its arm, with the reservation `r`. -/
def StartPasses (b : BayId) (a : ArmId) (o : Order) (l : Line) (p : Permit) (r : Reservation) (s : State) : Prop :=
  b ∈ (s.arm a).reach ∧ (s.bay b).boundOrder = some o.orderNo ∧ s.order? o.orderNo = some o
    ∧ o.line? l.compartment = some l ∧ (l.state = .opened ∨ l.state = .part)
    ∧ 0 < s.remainder o.orderNo l ∧ l.product ∈ (s.arm a).products ∧ s.permit? o.card = some p ∧ p.state = .active
    ∧ p.validFrom ≤ s.clock.day ∧ s.clock.day ≤ p.validUntil ∧ p.endorsements.getLsbD (l.product / 1000) = true
    ∧ s.settings.cal = false ∧ (o.noteSlot ≠ none ∨ ∃ k, s.slot k = .free)
    ∧ (o.noteSlot ≠ none ∨ s.notes.nextSerial ≠ none) ∧ p.reservation (s.remainder o.orderNo l) = some r

/-- The snapshot a line holds from its first acceptance on (R124). -/
def snapshotAt (s : State) (l : Line) : Option (List Component) :=
  match l.snapshot, l.recipe with
  | some cs, _ => some cs
  | none, none => none
  | none, some id => (s.dosing.recipes.find? (·.id == id)).map (·.components)

/-- A segment as an acceptance makes it (R55, R59). -/
def acceptedSegment (o : Order) (l : Line) (b : BayId) (origin : Origin) (r : Reservation) : Segment :=
  freshSegment o.orderNo l.compartment b origin r.presetMl r.reservedL r.trimmed

/-- The effects of an acceptance up to the lookup (R59, R40, R14, R124, R150): the claim and the segment, the note slot `k`,
the reservation, the line, the order and the bay, with LOADING (log 9). -/
def StartTaken (b : BayId) (a : ArmId) (o : Order) (l : Line) (p : Permit) (r : Reservation) (origin : Origin) (k : SlotId)
    (s u : State) : Prop :=
  u.arm a = { s.arm a with status := .segment (acceptedSegment o l b origin r), claim := some b }
    ∧ (∀ i, o.noteSlot = some i → k = i ∧ u.notes = s.notes)
    ∧ (o.noteSlot = none → LowestFree k s ∧ u.notes = { s.notes with
        slots := s.notes.slots.set k.val (.reserved ⟨o.orderNo, o.card, b, none, [], false, none⟩) k.isLt })
    ∧ u.permit? o.card = some { p with reserved := p.reserved + r.reservedL }
    ∧ u.order? o.orderNo = some { o with
        state := .loading, noteSlot := some k
        lines := o.lines.map fun x =>
          if x.compartment = l.compartment then { x with state := .active, snapshot := snapshotAt s x } else x }
    ∧ u.bay b = { s.bay b with
        state := .loading, display := some (.loading a)
        cardIdleTimer := if (s.bay b).state = .carded then none else (s.bay b).cardIdleTimer }
    ∧ u.outputs = s.outputs ++ [.prompt b (.loading a)]
    ∧ OnlyMarks [.bay b] s u ∧ ((s.bay b).state = .carded → u.att.bayMarks[b] = true)
    ∧ OtherArms a s u ∧ OtherBays b s u ∧ OtherPermits o.card s u ∧ OtherOrders o.orderNo s u
    ∧ SameExcept [.permits, .orders, .bays, .arms, .notes, .att, .outputs] s u

/-- A miss: a want joins the list, which marks it as an onset does, and its timer of 20 s runs (R61, R109, R168). -/
def WantPlaced (a : ArmId) (g : Segment) (product : Nat) (u t : State) : Prop :=
  t.arm a = { u.arm a with status := .segment { g with wantTimer := some 20000 } } ∧ OtherArms a u t
    ∧ t.cache = { u.cache with wants := u.cache.wants ++ [⟨a, a.val, product, u.clock.minute⟩] }
    ∧ OnlyMarks [.want] u t ∧ WantMarked u t ∧ SameExcept [.arms, .cache, .att] u t

/-- A hit: the entry is pinned to the segment and goes to the front (R106, R105). -/
def Pinned (a : ArmId) (g : Segment) (e : EntryId) (x : Entry) (u v : State) : Prop :=
  v.arm a = { u.arm a with status := .segment g } ∧ OtherArms a u v
    ∧ v.cache = { u.cache with
        entries := u.cache.entries.set e.val (some { x with pinCount := 1 }) e.isLt
        recency := e :: u.cache.recency.filter (· != e) }
    ∧ SameExcept [.arms, .cache] u v

/-- A segment as its hit leaves it in AWAIT_INJECTOR (R61, R106). -/
def hitSegment (g : Segment) (e : EntryId) (x : Entry) : Segment :=
  { g with phase := .awaitInjector, entry := some e, calSerial := some x.calSerial }

/-- A component's lowest-numbered IDLE injector that reaches the arm, or none (R130). -/
def Picks (s : State) (a : ArmId) (c : Component) (pick : Option InjId) : Prop :=
  let fits := fun j => (s.injector j).state = .idle ∧ (s.injector j).cls = c.cls ∧ a ∈ (s.injector j).reach
  match pick with
  | some j => fits j ∧ ∀ i, i < j → ¬ fits i
  | none => ∀ j, ¬ fits j

/-- The claims that the components of a snapshot are granted, by component index from 1 (R133). -/
def claimsGranted (pick : Component → Option InjId) (cs : List Component) : List Claim :=
  (List.range cs.length).filterMap fun i => (cs[i]?).bind fun c => (pick c).map fun j => ⟨j, i + 1, c, 0, false⟩

/-- The AWAIT_INJECTOR entry with a snapshot: each component, of a class of its own, is claimed, queued or skipped UNDOSED; the
injector wait timer of 30 s runs unless every mandatory component is granted (R62, R130, R133). -/
def Asked (a : ArmId) (pick : Component → Option InjId) (cs : List Component) (g h : Segment) (v w : State) : Prop :=
  w.arm a = { v.arm a with status := .segment h } ∧ OtherArms a v w
    ∧ h = { g with
        claims := claimsGranted pick cs, undosed := h.undosed
        injectorTimer := if cs.all (fun c => !c.mandatory || (pick c).isSome) then none else some 30000 }
    ∧ (∀ i, i < 3 → h.undosed.getLsbD i = (cs[i]?).any fun c => !c.mandatory && (pick c).isNone)
    ∧ (∀ j, w.injector j = match (claimsGranted pick cs).find? (·.injector == j) with
        | some k => { v.injector j with
            state := .claimed, claimant := some ⟨a, k.index⟩, accNl := 0, queued := false, firing := false, confirmed := 0 }
        | none => v.injector j)
    ∧ (∀ i c, cs[i]? = some c → w.dosing.queue c.cls = v.dosing.queue c.cls ++
        if c.mandatory && (pick c).isNone then [⟨a, i + 1, v.clock.minute⟩] else [])
    ∧ (∀ n, 1 ≤ n → n ∉ cs.map (·.cls) → w.dosing.queue n = v.dosing.queue n)
    ∧ w.dosing.recipes = v.dosing.recipes ∧ SameExcept [.arms, .dosing] v w

/-- The lines of a note after the count of a segment of an order line on an arm (R152). -/
def linesCounted (l : Line) (a : ArmId) (ls : List NoteLine) : List NoteLine :=
  if ls.any fun x => x.compartment == l.compartment then
    ls.map fun x => if x.compartment = l.compartment then { x with segments := x.segments + 1, arm := a } else x
  else ls ++ [⟨l.compartment, l.product, l.basis, l.presetL, a, 1, 0, 0, 0, 0, 0, none, 0, none, []⟩]

/-- The end of acquisition (R64): the note in slot `k` is opened if RESERVED, with the next serial (R151); the segment is
counted on it (R152) and flows in LOW_START. -/
def ReachesLowStart (a : ArmId) (g : Segment) (o : Order) (l : Line) (k : SlotId) (v t : State) : Prop :=
  t.arm a = { v.arm a with
      status := .segment { g with phase := .lowStart, counted := true, zeroRun := 0, periodTimer := some 250 }
      counterA := 0, counterB := 0 }
    ∧ t.order? o.orderNo = some { o with lines := o.lines.map fun x =>
        if x.compartment = l.compartment then { x with segmentsUsed := x.segmentsUsed + 1 } else x }
    ∧ (∀ n serial q, v.slot k = .reserved n → v.notes.nextSerial = some serial → v.permit? n.card = some q →
        t.slot k = .opened { n with
            opening := some ⟨serial, q.carrier, v.clock.day, v.clock.minute, v.settings.sealCount, v.settings.mode⟩
            lines := linesCounted l a n.lines }
          ∧ t.notes.nextSerial = if serial = 4294967295 then none else some (serial + 1))
    ∧ (∀ n, v.slot k = .opened n →
        t.slot k = .opened { n with lines := linesCounted l a n.lines } ∧ t.notes.nextSerial = v.notes.nextSerial)
    ∧ (∀ i, i ≠ k → t.slot i = v.slot i) ∧ t.notes.sealedList = v.notes.sealedList
    ∧ OtherArms a v t ∧ OtherOrders o.orderNo v t ∧ SameExcept [.orders, .arms, .notes] v t

/-- Acquisition complete: the segment flows, or with its note RESERVED and the serials spent it ends SERIAL_SPENT (R64, R151). -/
def Completes (a : ArmId) (g : Segment) (o : Order) (l : Line) (k : SlotId) (v t : State) : Prop :=
  let spent := (∃ n, v.slot k = .reserved n) ∧ v.notes.nextSerial = none
  (¬ spent → ReachesLowStart a g o l k v t) ∧ (spent → NoWaiterFor a g v → EndsUncounted a g .serialSpent v t)

/-- What follows the entry of a segment into AWAIT_INJECTOR in the same event, for its order and its line with at most three
components of different classes: no recipe, a recipe that has gone, or a snapshot (R62, R64, R130). -/
def EntersInjector (a : ArmId) (g : Segment) (k : SlotId) (v t : State) : Prop :=
  ∀ o l, v.order? g.orderNo = some o → o.line? g.compartment = some l →
    (l.recipe = none → Completes a g o l k v t)
    ∧ (l.recipe ≠ none → l.snapshot = none → EndsUncounted a g .noRecipe v t)
    ∧ ∀ cs pick, l.recipe ≠ none → l.snapshot = some cs → cs.length ≤ 3 → (cs.map (·.cls)).Nodup →
      (∀ c ∈ cs, 1 ≤ c.cls ∧ c.cls ≤ 15) → (∀ c ∈ cs, Picks v a c (pick c)) →
      ∃ h w, Asked a pick cs g h v w
        ∧ (h.injectorTimer = none → Completes a h o l k w t) ∧ (h.injectorTimer ≠ none → t = w)

/-- What follows an acceptance in the same event: the lookup for the product of the segment's line, with a want on a miss and
the AWAIT_INJECTOR entry on a hit (R61). -/
def Acquires (a : ArmId) (g : Segment) (k : SlotId) (u t : State) : Prop :=
  ∀ l, u.line? g.orderNo g.compartment = some l →
    (u.cache.lookup a.val l.product = none → WantPlaced a g l.product u t)
    ∧ ∀ e x, u.cache.lookup a.val l.product = some e → u.entry e = some x → ∃ v, Pinned a (hitSegment g e x) e x u v
      ∧ EntersInjector a (hitSegment g e x) k v t

/-! ## What a restoration brings -/

/-- A restoration at a bay in HOLD (R45, R76, R38): `r` is the state with the cause of the hold gone from the bay's record, and
`ran` says what the command answers. Without a waiting arm, or with the window stopped, the bay is LOADING while a segment remains
and takes the CARDED entry otherwise; with the window running the resume of the one waiting arm is refused, or taken as a start
is. -/
def Restores (b : BayId) (no : Nat) (o : Order) (r : State) (ran : State → Prop) : Prop :=
  let x := r.bay b
  let select : Prompt := .select (o.lines.filter fun l => l.state == .opened || l.state == .part).length
  let free := r.segArms b = []
  let loadable := ∃ l ∈ o.lines, l.state = .opened ∨ l.state = .part
  (x.holdWindow = none ∨ r.waitArms b = [] →
      (¬ free → ∃ t : State, ran t ∧ t.bay b = { x with state := .loading, holdWindow := none }
        ∧ OtherBays b r t ∧ SameExcept [.bays, .att] r t)
      ∧ (free → loadable → ∃ t : State, ran t
        ∧ t.bay b = { x with
            state := .carded, holdWindow := none, cardIdleTimer := some 600000, display := some select }
        ∧ t.outputs = r.outputs ++ [.prompt b select] ∧ OtherBays b r t ∧ SameExcept [.bays, .att, .outputs] r t))
    ∧ ∀ a l, x.holdWindow ≠ none → r.waitArms b = [a] → (r.arm a).status = .resumeWait no l.compartment →
      o.line? l.compartment = some l →
      let back := r.modBay b fun y => { y with state := .loading, holdWindow := none }
      let refused := fun reason : Reason => ∃ t : State, ran t
        ∧ t.arm a = { r.arm a with status := .idle, claim := none } ∧ (t.att.occurrences[a]).released = true
        ∧ (¬ free → t.bay b = { back.bay b with display := some (.refused reason) }
          ∧ t.outputs = r.outputs ++ [.prompt b (.refused reason)])
        ∧ (free → loadable →
          t.bay b = { back.bay b with state := .carded, cardIdleTimer := some 600000, display := some select }
          ∧ t.outputs = r.outputs ++ [.prompt b (.refused reason), .prompt b select])
        ∧ OtherArms a r t ∧ OtherBays b r t ∧ SameExcept [.bays, .arms, .att, .outputs] r t
      (4 ≤ l.segmentsUsed → ¬ free ∨ loadable → refused .lineDone)
      ∧ (l.segmentsUsed < 4 → (l.state = .opened ∨ l.state = .part) → b ∈ (r.arm a).reach → 0 < r.remainder no l →
        l.product ∈ (r.arm a).products → ∀ p, r.permit? o.card = some p →
        (p.state ≠ .active → refused .permitStopped)
        ∧ (p.state = .active → p.validFrom ≤ r.clock.day → r.clock.day ≤ p.validUntil →
          p.endorsements.getLsbD (l.product / 1000) = true → r.settings.cal = true → refused .calibrating))
      ∧ ∀ p q, l.segmentsUsed < 4 → StartPasses b a o l p q r → p.used ≤ 9999999 →
        (r.notes.nextSerial ≠ none ∨ ∀ n, r.dosing.queue n = []) → ∃ u v t k, ran t
        ∧ StartTaken b a o l p q .resume k back u ∧ Acquires a (acceptedSegment o l b .resume q) k u v
        ∧ ((∃ c h, v.seg? c = some h ∧ h.bay = b) → t = v)
        ∧ ((∀ c h, v.seg? c = some h → h.bay ≠ b) → ∃ n, (v.bay b).display = some (.select n)
          ∧ t.outputs = v.outputs ++ [.prompt b (.select n)] ∧ SameExcept [.outputs] v t)

/-! ## Pacing -/

/-- Owed shots (R140). -/
def owedShots (x : Injector) : Nat :=
  if x.state = .claimed then (if x.firing then 1 else 0) + (if x.queued then 1 else 0) + x.accNl / (x.shotUl * 1000) else 0

/-- The cap of a segment after its evaluation: set when a claim's injector owes 3 shots or more, cleared when none owes more
than 1, left otherwise (R140). -/
def capUnder (s : State) (g : Segment) : Bool :=
  if g.claims.any fun k => 3 ≤ owedShots (s.injector k.injector) then true
  else if g.claims.all fun k => owedShots (s.injector k.injector) ≤ 1 then false
  else g.cap

/-! ## Grants and faults -/

/-- A free injector, whose record as the grant finds it is `y`, goes to the waiter `w` of its class for the component `c` of the
snapshot `cs`: the waiter leaves the queue and the others keep their order, the claim starts in its component's place, and with the
last mandatory component granted the injector wait timer stops and acquisition is complete in the same event (R63, R64, R131,
R133). -/
def Granted (j : InjId) (y : Injector) (before after : List Waiter) (w : Waiter) (g : Segment) (o : Order) (l : Line) (k : SlotId)
    (cs : List Component) (c : Component) (s t : State) : Prop :=
  ∃ (v : State) (h : Segment),
    v.injector j = { y with
        state := .claimed, claimant := some ⟨w.arm, w.index⟩, accNl := 0, queued := false, firing := false, confirmed := 0 }
      ∧ v.dosing.queue y.cls = before ++ after ∧ (∀ n, 1 ≤ n → n ≠ y.cls → v.dosing.queue n = s.dosing.queue n)
      ∧ v.dosing.recipes = s.dosing.recipes ∧ v.arm w.arm = { s.arm w.arm with status := .segment h }
      ∧ OtherArms w.arm s v ∧ OtherInjectors j s v ∧ SameExcept [.arms, .dosing, .att] s v
      ∧ h.claims = (g.claims.filter fun d => d.index < w.index) ++ ⟨j, w.index, c, 0, false⟩
          :: g.claims.filter (fun d => w.index < d.index)
      ∧ (let all := ∀ i d, cs[i]? = some d → d.mandatory = true → h.claims.any (fun e => e.index == i + 1) = true
        (all → h = { g with claims := h.claims, injectorTimer := none } ∧ Completes w.arm h o l k v t)
        ∧ (¬ all → h = { g with claims := h.claims } ∧ t = v))

/-- The fault of a CLAIMED injector, whose record with its counts is `y`, at the segment of its claimant `c` under the claim `k`:
the claim and the segment are marked DOSE_FAULT, the cap is evaluated, and a flowing segment closes under a mandatory component
(R139, R140). -/
def FaultsSegment (j : InjId) (c : Claimant) (g g' : Segment) (k : Claim) (y : Injector) (s t : State) : Prop :=
  let flowing := g.phase = .lowStart ∨ g.phase = .high ∨ g.phase = .lowStop
  t.injector j = { y with state := .fault, firing := false, confirmTimer := none, queued := false, accNl := 0 }
    ∧ t.arm c.arm = { s.arm c.arm with status := .segment g' }
    ∧ g'.claims = g.claims.map (fun d => if d.injector = j then { d with doseFault := true } else d)
    ∧ g'.cap = capUnder t g
    ∧ (∀ i, i < 3 → g'.doseFault.getLsbD i = (decide (i = c.index - 1) || g.doseFault.getLsbD i))
    ∧ (k.component.mandatory = true → flowing → g' = { g with
        claims := g'.claims, cap := g'.cap, doseFault := g'.doseFault
        phase := .closing, endCause := some .doseFault, closeRecorded := true, closeCounter := 0, zeroRun := 0 })
    ∧ (k.component.mandatory = false ∨ ¬ flowing →
      g' = { g with claims := g'.claims, cap := g'.cap, doseFault := g'.doseFault })
    ∧ (s.att.edges.injector ≠ .clearance → t.att.injectorMarks[j] = true)
    ∧ t.dosing.recipes = s.dosing.recipes ∧ t.dosing.queues = s.dosing.queues
    ∧ OtherInjectors j s t ∧ OtherArms c.arm s t ∧ SameExcept [.arms, .dosing, .att] s t

/-- The fault of a CLAIMED injector and what follows in its event: in AWAIT_INJECTOR under a mandatory component the segment ends
uncounted with DOSE_FAULT (R63, R139). -/
def ClaimFaults (j : InjId) (c : Claimant) (g : Segment) (k : Claim) (y : Injector) (s t : State) : Prop :=
  (k.component.mandatory = false ∨ g.phase ≠ .awaitInjector → ∃ g', FaultsSegment j c g g' k y s t)
    ∧ (k.component.mandatory = true → g.phase = .awaitInjector → ∀ o l p, Uncounted c.arm g o l p s →
      (s.bay g.bay).state = .loading → ∃ u g', FaultsSegment j c g g' k y s u ∧ EndsUncounted c.arm g' .doseFault u t)

end Sys2Proof.Machine
end

