-- ==== Sys2Proof/WellFormed.lean ====
section
/-! DEFINITION. Which commands can arrive. A body that no frame carries (R185), a kind of the table under
UNKNOWN_REQUEST (R189), or a panel field outside its valid values (R32: such a frame is MALFORMED_PANEL_FRAME)
is ill-formed. Units are numbered by bounded types, so their range needs no check. -/

namespace Sys2Proof

/-- Commands that can arrive. -/
def WellFormed : Instr → Bool
  | .unknownRequest kind _ body => !requestCodes.contains kind.toNat && bodyFits body
  | .permitPut _ body => bodyFits body
  | .permitGet _ body => bodyFits body
  | .permitSuspend _ body => bodyFits body
  | .permitResume _ body => bodyFits body
  | .permitUnlock _ body => bodyFits body
  | .permitRetire _ body => bodyFits body
  | .walk _ body => bodyFits body
  | .orderPost _ body => bodyFits body
  | .orderGet _ body => bodyFits body
  | .orderCancel _ body => bodyFits body
  | .orderEnd _ body => bodyFits body
  | .bayOpen _ body => bodyFits body
  | .bayClose _ body => bodyFits body
  | .bayGet _ body => bodyFits body
  | .holdSet _ body => bodyFits body
  | .holdClear _ body => bodyFits body
  | .authGrant _ body => bodyFits body
  | .authDeny _ body => bodyFits body
  | .referralList _ body => bodyFits body
  | .armSet _ body => bodyFits body
  | .armGet _ body => bodyFits body
  | .armStart _ body => bodyFits body
  | .armStop _ body => bodyFits body
  | .armClear _ body => bodyFits body
  | .profileLoad _ body => bodyFits body
  | .profileRead _ body => bodyFits body
  | .profileDrop _ body => bodyFits body
  | .profileList _ body => bodyFits body
  | .wantList _ body => bodyFits body
  | .recipePut _ body => bodyFits body
  | .recipeGet _ body => bodyFits body
  | .recipeRetire _ body => bodyFits body
  | .recipeList _ body => bodyFits body
  | .injectorSet _ body => bodyFits body
  | .injectorShot _ body => bodyFits body
  | .injectorClear _ body => bodyFits body
  | .injectorGet _ body => bodyFits body
  | .queueList _ body => bodyFits body
  | .notePeek _ body => bodyFits body
  | .noteTake _ body => bodyFits body
  | .noteList _ body => bodyFits body
  | .serialSet _ body => bodyFits body
  | .clockSet _ body => bodyFits body
  | .clockGet _ body => bodyFits body
  | .attentionRead _ body => bodyFits body
  | .attentionEdges _ body => bodyFits body
  | .modeSet _ body => bodyFits body
  | .sealSet _ body => bodyFits body
  | .settingsGet _ body => bodyFits body
  | .linkGet _ body => bodyFits body
  | .restart _ body => bodyFits body
  | .card _ cardId => cardIdValid cardId
  | .start _ arm compartment => panelArmValid arm && compartmentValid compartment
  | .stop _ arm => panelArmValid arm
  | .powerOnReset _ => true
  | .restartInput => true
  | .receiveByte _ _ => true
  | .gapTimerExpiry => true
  | .responseSent => true
  | .malformedPanelFrame _ => true
  | .endVisit _ => true
  | .permissiveChange _ _ _ => true
  | .meterPulse _ _ => true
  | .sampleFrame _ _ _ => true
  | .freshnessTimerExpiry _ => true
  | .confirmEdge _ => true
  | .confirmTimerExpiry _ => true
  | .injectorFault _ _ => true
  | .calAssertion => true
  | .calRelease => true
  | .minuteTimerExpiry => true
  | .referralTimerExpiry _ => true
  | .cardIdleTimerExpiry _ => true
  | .holdWindowExpiry _ => true
  | .wantTimerExpiry _ => true
  | .injectorWaitTimerExpiry _ => true
  | .meteringPeriodExpiry _ => true
  | .flowEnd _ => true
  | .leak _ => true
  | .noFlow _ => true
  | .tempFault _ => true
  | .meterFault _ => true

end Sys2Proof
end

