-- ==== Sys2Proof/Certificates/Slice0/Obligations.lean ====
section
/-! DEFINITION. The statements for the provers (OBLIGATIONS.json lists them with their rules). A request is stated at a link
that takes it at once (linkIdle); how it is held or turned away otherwise is `Obligations.InboundQueue`. -/

open Sys2Proof Sys2Proof.Machine

/-! ## The queue and time -/

/-- A step runs the command at the front of the queue on the state with the queue's rest. -/
def Obligations.StepRunsFrontCommand : Prop :=
  ∀ (c : Instr) (rest : List Instr) (s : State),
    step { s with pending := c :: rest } = exec c { s with pending := rest }

/-- On an empty queue one millisecond passes: every running timer counts down, exactly the timers that run out queue their
expiries, and nothing else is queued or changes. The millisecond is the model's choice (log 2). -/
def Obligations.IdleStepIsOneMillisecond : Prop :=
  ∀ s : State, s.pending = [] → ∃ t : State, step s = .next t
    ∧ (∀ b, t.bay b = { s.bay b with
        holdWindow := (s.bay b).holdWindow.map (· - 1)
        referralTimer := (s.bay b).referralTimer.map (· - 1)
        cardIdleTimer := (s.bay b).cardIdleTimer.map (· - 1) })
    ∧ (∀ a, t.arm a = { s.arm a with freshness := (s.arm a).freshness.map (· - 1), status := (t.arm a).status }
        ∧ (s.seg? a = none → (t.arm a).status = (s.arm a).status))
    ∧ (∀ a, t.seg? a = (s.seg? a).map fun g => { g with
        wantTimer := g.wantTimer.map (· - 1)
        injectorTimer := g.injectorTimer.map (· - 1)
        periodTimer := g.periodTimer.map (· - 1) })
    ∧ (∀ j, t.injector j = { s.injector j with confirmTimer := (s.injector j).confirmTimer.map (· - 1) })
    ∧ t.clock = { s.clock with minuteTimer := s.clock.minuteTimer - 1 }
    ∧ t.link = { s.link with gapTimer := s.link.gapTimer.map (· - 1) }
    ∧ (.gapTimerExpiry ∈ t.pending ↔ s.link.gapTimer = some 1)
    ∧ (.minuteTimerExpiry ∈ t.pending ↔ s.clock.minuteTimer = 1)
    ∧ (∀ b, (.referralTimerExpiry b ∈ t.pending ↔ (s.bay b).referralTimer = some 1)
        ∧ (.cardIdleTimerExpiry b ∈ t.pending ↔ (s.bay b).cardIdleTimer = some 1)
        ∧ (.holdWindowExpiry b ∈ t.pending ↔ (s.bay b).holdWindow = some 1))
    ∧ (∀ a, (.freshnessTimerExpiry a ∈ t.pending ↔ (s.arm a).freshness = some 1)
        ∧ (.wantTimerExpiry a ∈ t.pending ↔ (s.seg? a).bind (·.wantTimer) = some 1)
        ∧ (.injectorWaitTimerExpiry a ∈ t.pending ↔ (s.seg? a).bind (·.injectorTimer) = some 1)
        ∧ (.meteringPeriodExpiry a ∈ t.pending ↔ (s.seg? a).bind (·.periodTimer) = some 1))
    ∧ (∀ j, .confirmTimerExpiry j ∈ t.pending ↔ (s.injector j).confirmTimer = some 1)
    ∧ (∀ i ∈ t.pending, i = .gapTimerExpiry ∨ i = .minuteTimerExpiry
        ∨ (∃ b, i = .referralTimerExpiry b ∨ i = .cardIdleTimerExpiry b ∨ i = .holdWindowExpiry b)
        ∨ (∃ a, i = .freshnessTimerExpiry a ∨ i = .wantTimerExpiry a ∨ i = .injectorWaitTimerExpiry a
            ∨ i = .meteringPeriodExpiry a)
        ∨ ∃ j, i = .confirmTimerExpiry j)
    ∧ t.dosing.recipes = s.dosing.recipes ∧ t.dosing.queues = s.dosing.queues
    ∧ SameExcept [.bays, .arms, .dosing, .clock, .link, .pending] s t

/-! ## The rack link -/

/-- The request code table is read as it is written (R194): the request of a kind carries that kind, and every well-formed
request is the request of its kind. -/
def Obligations.RequestCodesRoundTrip : Prop :=
  (∀ kind tag body, kindOf (requestOf kind tag body) = some kind)
    ∧ ∀ i kind, WellFormed i = true → kindOf i = some kind → ∃ tag body, requestOf kind tag body = i

/-- A request frame sent byte by byte to a receiver in HUNT, marker and length and check byte with it, has the effect of the
request's command (R185, R186, R187, R194). That a complete frame is offered in the step of its last byte, and that the
request's command is that offer, is the model's reading (log 1). -/
def Obligations.FrameBytesAreTheRequest : Prop :=
  ∀ (f : Frame) (s : State), s.link.receiver = .hunt → s.link.gapTimer = none → f.body.length ≤ 248 →
    runAll (f.bytes.map fun x => .receiveByte x false) s = exec (requestOf f.kind f.tag f.body) s

/-- What the receiver does with a byte, with a byte in error and at the gap timer's expiry (R186, R187). -/
def Obligations.ReceiverTakesBytes : Prop :=
  ∀ (s : State) (x : Byte) (e : Bool),
    (s.link.receiver = .hunt → x = 0xC3 → exec (.receiveByte x false) s =
      .next { s with link := { s.link with receiver := .length, gapTimer := some 50 } })
    ∧ (s.link.receiver = .hunt → (x ≠ 0xC3 ∨ e = true) → exec (.receiveByte x e) s = .next s)
    ∧ (s.link.receiver = .length → 2 ≤ x.toNat → x.toNat ≤ 250 → exec (.receiveByte x false) s =
      .next { s with link := { s.link with receiver := .collect x [], gapTimer := some 50 } })
    ∧ (s.link.receiver = .length → (x.toNat < 2 ∨ 250 < x.toNat) → exec (.receiveByte x false) s =
      .next { s with link := { s.link with
        receiver := .hunt, gapTimer := none, lengthErrors := min 4294967295 (s.link.lengthErrors + 1) } })
    ∧ (∀ len got, s.link.receiver = .collect len got → got.length < len.toNat → exec (.receiveByte x false) s =
      .next { s with link := { s.link with receiver := .collect len (got ++ [x]), gapTimer := some 50 } })
    ∧ (∀ len got, s.link.receiver = .collect len got → got.length = len.toNat → byteSum (len :: (got ++ [x])) ≠ 0 →
      exec (.receiveByte x false) s = .next { s with link := { s.link with
        receiver := .hunt, gapTimer := none, checkErrors := min 4294967295 (s.link.checkErrors + 1) } })
    ∧ (∀ len kind tag body, s.link.receiver = .collect len (kind :: tag :: body) → body.length + 2 = len.toNat →
      byteSum (len :: kind :: tag :: (body ++ [x])) = 0 → exec (.receiveByte x false) s =
        exec (requestOf kind tag body) { s with link := { s.link with receiver := .hunt, gapTimer := none } })
    ∧ (s.link.receiver ≠ .hunt → exec (.receiveByte x true) s = .next { s with link := { s.link with
        receiver := .hunt, gapTimer := none, lineErrors := min 4294967295 (s.link.lineErrors + 1) } })
    ∧ (s.link.gapTimer.isSome → exec .gapTimerExpiry s = .next { s with link := { s.link with
        receiver := .hunt, gapTimer := none, gapErrors := min 4294967295 (s.link.gapErrors + 1) } })

/-- A complete frame at the inbound queue, of any request (R188): it joins, is answered BUSY, or is dropped; it is taken when
nothing stands in its way (R189). -/
def Obligations.InboundQueue : Prop :=
  ∀ (kind tag : Byte) (body : List Byte) (s : State),
    (2 ≤ s.link.inbound.length → s.link.outbound.length < 4 → exec (requestOf kind tag body) s =
      .next (State.answered kind tag body ⟨.busy, []⟩
        { s with link := { s.link with busyCount := min 4294967295 (s.link.busyCount + 1) } }))
    ∧ (2 ≤ s.link.inbound.length → 4 ≤ s.link.outbound.length → exec (requestOf kind tag body) s =
      .next { s with link := { s.link with dropCount := min 4294967295 (s.link.dropCount + 1) } })
    ∧ (s.link.inbound.length < 2 → (4 ≤ s.link.outbound.length ∨ ∃ r ∈ s.link.outbound, r.isRestart = true) →
      exec (requestOf kind tag body) s =
        .next { s with link := { s.link with inbound := s.link.inbound ++ [⟨kind, tag, body⟩] } })
    ∧ (s.linkIdle → exec (requestOf kind tag body) s = .next (State.takeFrame ⟨kind, tag, body⟩ s))

/-- A kind outside the request code table is answered UNKNOWN under its response kind (R189, R185).
A body whose length is not the one its kind gives is answered MALFORMED and changes nothing else (R189, R194, R196..R198). -/
def Obligations.UnknownOrMalformedFrames : Prop :=
  (∀ (kind tag : Byte) (body : List Byte) (s : State), s.linkIdle → kind.toNat ∉ requestCodes →
      exec (.unknownRequest kind tag body) s = .next { s with link := { s.link with
        outbound := s.link.outbound ++ [⟨if kind.toNat < 0x80 then kind + 0x80 else 0xFF, tag, [0x02]⟩] } }) ∧
  (∀ (s : State) (tag : Byte) (body : List Byte), s.linkIdle →
      (∀ p ∈ fixedShapes, body.length ≠ p.2 →
        exec (requestOf p.1 tag body) s = .next (s.answered p.1 tag body ⟨.malformed, []⟩))
      ∧ (body.length < 10 ∨ body.length ≠ 10 + 10 * (body.getD 9 0).toNat →
        exec (.orderPost tag body) s = .next (s.answered 0x20 tag body ⟨.malformed, []⟩))
      ∧ (body.length < 2 ∨ body.length ≠ 2 + 4 * (body.getD 1 0).toNat →
        exec (.recipePut tag body) s = .next (s.answered 0x50 tag body ⟨.malformed, []⟩))
      ∧ (body.length < 3 ∨ body.length ≠ 4 + (body.getD 2 0).toNat →
        exec (.injectorSet tag body) s = .next (s.answered 0x58 tag body ⟨.malformed, []⟩))
      ∧ (body.length < 30 ∨ body.length ≠ 30 + 6 * (body.getD 29 0).toNat →
        exec (.profileLoad tag body) s = .next (s.answered 0x40 tag body ⟨.malformed, []⟩))
      ∧ (body.length < 3 + (body.getD 1 0).toNat
          ∨ body.length ≠ 3 + (body.getD 1 0).toNat + 2 * (body.getD (2 + (body.getD 1 0).toNat) 0).toNat →
        exec (.armSet tag body) s = .next (s.answered 0x30 tag body ⟨.malformed, []⟩)))

/-- A response whose last byte is sent leaves the outbound list, and the frame at the head of the inbound queue is then taken
if it may be (R191, R189). That nothing happens with no response in progress is the model's choice (log 30).
RESTART is answered OK and acts when its response has been sent; with a body it is answered BAD_VALUE (R182, R192). That the
response behind the RESTART response is then the one in progress, which the restart keeps, is the model's reading (log 12). -/
def Obligations.ResponseSentAndRestart : Prop :=
  (∀ (s : State) (r : Frame) (rest : List Frame),
      (s.link.outbound = [] → exec .responseSent s = .next s)
      ∧ (s.link.outbound = r :: rest → r.isRestart = false → s.link.inbound = [] → exec .responseSent s =
        .next { s with link := { s.link with outbound := rest }, outputs := s.outputs ++ [.response r.bytes] })
      ∧ (∀ f, s.link.outbound = r :: rest → r.isRestart = false → s.link.inbound = [f] → rest.length < 4 →
        (∀ q ∈ rest, q.isRestart = false) → exec .responseSent s = .next (State.takeFrame f { s with
          link := { s.link with outbound := rest, inbound := [] }, outputs := s.outputs ++ [.response r.bytes] }))) ∧
  (∀ (s : State) (tag : Byte) (body : List Byte),
      (s.linkIdle → exec (.restart tag []) s = .next (s.answered 0x7E tag [] ⟨.ok, []⟩))
      ∧ (s.linkIdle → body ≠ [] → exec (.restart tag body) s = .next (s.answered 0x7E tag body ⟨.badValue, []⟩))
      ∧ (∀ rest, s.link.outbound = ⟨0xFE, tag, [0x00]⟩ :: rest → exec .responseSent s =
        .next (State.warmRestart .restartRequest { s with
          link := { s.link with outbound := rest }
          outputs := s.outputs ++ [.response (Frame.bytes ⟨0xFE, tag, [0x00]⟩)] })))

/-- What a warm restart keeps and what it settles (R183 and the rules of its table), by the restart input, from a state whose
arms' claims, visits and profile cache are kept and whose segments are those of LOADING orders: BOUND orders are POSTED again,
LOADING ones close, every permit is unbound, OPEN notes are sealed RESTART, pins are released. That the response in progress
is the one kept on the outbound list is the model's reading (log 12). -/
def Obligations.WarmRestartKeepsAndSettles : Prop :=
  ∀ s : State, ClaimsKept s → VisitsKept s → CacheKept s →
    (∀ a g, s.seg? a = some g → ∃ o, s.order? g.orderNo = some o ∧ o.state = .loading) →
    ∃ t : State, exec .restartInput s = .next t
    ∧ t.settings = { s.settings with startCause := .restartInput, restartCount := min 65535 (s.settings.restartCount + 1) }
    ∧ t.clock = s.clock ∧ t.att.edges = s.att.edges ∧ t.pending = s.pending
    ∧ t.link = { s.link with receiver := .hunt, gapTimer := none, inbound := [], outbound := s.link.outbound.take 1 }
    ∧ t.cache.wants = [] ∧ t.referrals = [] ∧ (∀ c, t.dosing.queue c = []) ∧ t.dosing.recipes = s.dosing.recipes
    ∧ t.notes.nextSerial = s.notes.nextSerial
    ∧ (∀ j, (t.injector j).cls = (s.injector j).cls ∧ (t.injector j).reach = (s.injector j).reach
        ∧ (t.injector j).shotUl = (s.injector j).shotUl ∧ (t.injector j).misses = (s.injector j).misses
        ∧ (t.injector j).strays = (s.injector j).strays ∧ (t.injector j).queued = false ∧ (t.injector j).accNl = 0
        ∧ (t.injector j).state = (match (s.injector j).state with
            | .fault => .fault
            | .outOfService => .outOfService
            | _ => .idle))
    ∧ (∀ a, (t.arm a).claim = none ∧ (t.arm a).reach = (s.arm a).reach ∧ (t.arm a).products = (s.arm a).products
        ∧ (t.arm a).sample = (s.arm a).sample ∧ (t.arm a).freshness = (s.arm a).freshness
        ∧ (t.arm a).status = if (s.arm a).status = .fault then .fault else .idle)
    ∧ (∀ b, (t.bay b).holdFlags = 0 ∧ (t.bay b).holdWindow = none ∧ (t.bay b).referralTimer = none
        ∧ (t.bay b).cardIdleTimer = none ∧ (t.bay b).closePending = false ∧ (t.bay b).inputs = (s.bay b).inputs
        ∧ (t.bay b).boundOrder = none ∧ ((s.bay b).state ≠ .closed → (s.bay b).state ≠ .idle → (t.bay b).card = none)
        ∧ (t.bay b).state = (match (s.bay b).state with
            | .closed => .closed
            | .idle => .idle
            | .authorizing => .idle
            | _ => if (s.bay b).closePending then .closed else .idle))
    ∧ t.orders = (s.orders.filter fun o => o.state != .loading).map (fun o => { o with state := .posted, bay := none })
    ∧ (∀ c, s.permit? c = none → t.permit? c = none)
    ∧ (∀ c p, s.permit? c = some p → if p.state = .retiring ∧ p.boundOrder ≠ none then t.permit? c = none
        else ∃ q, t.permit? c = some q ∧ q = { p with used := q.used, reserved := q.reserved, boundOrder := none })
    ∧ (∀ k, (s.slot k = .free → t.slot k = .free) ∧ (∀ n, s.slot k = .sealed n → t.slot k = .sealed n)
        ∧ (∀ n, s.slot k = .reserved n → t.slot k = .free)
        ∧ ∀ n, s.slot k = .opened n → ∃ m, t.slot k = .sealed m ∧ m.orderNo = n.orderNo ∧ m.card = n.card ∧ m.bay = n.bay
            ∧ m.opening = n.opening ∧ m.lines.map (·.compartment) = n.lines.map (·.compartment)
            ∧ m.closedByRestart = true ∧ m.sealedAt = some ⟨s.clock.day, s.clock.minute⟩)
    ∧ (∃ ks : List SlotId, t.notes.sealedList = s.notes.sealedList ++ ks ∧ ks.Nodup
        ∧ ∀ k, k ∈ ks ↔ ∃ n, s.slot k = .opened n)
    ∧ (∀ e, t.entry e = (s.entry e).bind fun x => if x.dropping then none else some { x with pinCount := 0 })
    ∧ t.cache.recency = s.cache.recency.filter (fun e => !(s.entry e).any (·.dropping))

/-- The state after a power-on reset (R184 and the rules it names), for the levels the pins show. That no display shows a
prompt is the model's choice (log 6). -/
def Obligations.PowerOnReset : Prop :=
  ∀ (pins : PowerOnPins) (s : State), ∃ t : State, exec (.powerOnReset pins) s = .next t
    ∧ t.permits = [] ∧ t.orders = [] ∧ t.referrals = []
    ∧ (∀ b : BayId, t.bay b = ⟨.closed, none, none, pins.inputs[b], 0, none, none, none, false, none⟩)
    ∧ (∀ a : ArmId, (t.arm a).reach.map (·.val) = [a.val / 3] ∧ (t.arm a).products = [] ∧ (t.arm a).status = .idle
        ∧ (t.arm a).claim = none ∧ (t.arm a).lastEnd = none ∧ (t.arm a).counterA = 0 ∧ (t.arm a).counterB = 0
        ∧ (t.arm a).sample = none ∧ (t.arm a).freshness = none)
    ∧ (∀ e, t.entry e = none) ∧ t.cache.recency = [] ∧ t.cache.wants = []
    ∧ t.dosing.recipes = [] ∧ (∀ c, t.dosing.queue c = [])
    ∧ (∀ j, t.injector j = ⟨1, [], 1000, .outOfService, none, 0, false, none, false, 0, 0, 0⟩)
    ∧ (∀ k, t.slot k = .free) ∧ t.notes.sealedList = [] ∧ t.notes.nextSerial = some 1
    ∧ t.clock = ⟨0, 0, 60000⟩ ∧ t.attentionLine = false
    ∧ t.att.edges = ⟨.both, .both, .both, .both, .both, .both⟩
    ∧ t.settings = ⟨if pins.strap then .referred else .standalone, pins.strap, pins.cal, 1500, 50, 0, .powerOn, 0⟩
    ∧ t.link = ⟨.hunt, none, [], [], 0, 0, 0, 0, 0, 0⟩

/-! ## Permits -/

/-- PERMIT PUT of a body in the layout of R196: BAD_VALUE (R3); inserted, refused FULL, refused WRONG_STATE, or replaced (R4). -/
def Obligations.PermitPut : Prop :=
  (∀ (s : State) (tag : Byte) (card code carrier classes first last allowance : Nat), s.linkIdle → card ≤ 4294967295 →
      code ≤ 255 → carrier ≤ 65535 → classes ≤ 65535 → first ≤ 65535 → last ≤ 65535 → allowance ≤ 4294967295 →
      let body := b4 card ++ b1 code ++ b2 carrier ++ b2 classes ++ b2 first ++ b2 last ++ b4 allowance
      card = 0 ∨ card = 4294967295 ∨ 1 < code ∨ 1023 < classes ∨ last < first ∨ allowance = 0
        ∨ (999999 < allowance ∧ allowance ≠ 4294967295) →
      exec (.permitPut tag body) s = .next (s.answered 0x10 tag body ⟨.badValue, []⟩)) ∧
  ∀ (s : State) (tag : Byte) (card code carrier classes first last : Nat) (allowance : Option Nat),
    s.linkIdle → 1 ≤ card → card ≤ 4294967294 → code ≤ 1 → carrier ≤ 65535 → classes < 1024 → first ≤ last → last ≤ 65535 →
    (∀ x ∈ allowance, 1 ≤ x ∧ x ≤ 999999) →
    let body := b4 card ++ b1 code ++ b2 carrier ++ b2 classes ++ b2 first ++ b2 last ++ b4 (allowance.getD 0xFFFFFFFF)
    let st : PermitState := if code = 0 then .active else .suspended
    let fresh : Permit := ⟨card, st, carrier, BitVec.ofNat 10 classes, first, last, allowance, 0, 0, 0, none⟩
    (s.permit? card = none → s.permits.length < 512 → ∃ ps, ps.Perm (fresh :: s.permits)
      ∧ exec (.permitPut tag body) s = .next (State.answered 0x10 tag body ⟨.ok, [0x00]⟩ { s with permits := ps }))
    ∧ (s.permit? card = none → 512 ≤ s.permits.length →
      exec (.permitPut tag body) s = .next (s.answered 0x10 tag body ⟨.full, []⟩))
    ∧ (∀ p, s.permit? card = some p → p.state = .retiring →
      exec (.permitPut tag body) s = .next (s.answered 0x10 tag body ⟨.wrongState, [0x00]⟩))
    ∧ (∀ p, s.permit? card = some p → p.state ≠ .retiring →
      exec (.permitPut tag body) s = .next (State.answered 0x10 tag body ⟨.ok, [0x01]⟩
        (s.modPermit card fun q => { q with
          state := if q.state = .locked then .locked else st
          carrier := carrier
          endorsements := BitVec.ofNat 10 classes
          validFrom := first
          validUntil := last
          allowance := allowance })))

/-- PERMIT SUSPEND and PERMIT RESUME, by the record's state (R5).
PERMIT UNLOCK and PERMIT RETIRE, by the record's state and its binding (R6, R7). -/
def Obligations.PermitStateRequests : Prop :=
  (∀ (s : State) (tag : Byte) (card : Nat), s.linkIdle → 1 ≤ card → card ≤ 4294967294 →
      let suspend := fun a t => Host.Outcome.next (φ := Fault) (ρ := Refusal) (State.answered 0x12 tag (b4 card) a t)
      let resume := fun a t => Host.Outcome.next (φ := Fault) (ρ := Refusal) (State.answered 0x13 tag (b4 card) a t)
      (s.permit? card = none → exec (.permitSuspend tag (b4 card)) s = suspend ⟨.notFound, []⟩ s
        ∧ exec (.permitResume tag (b4 card)) s = resume ⟨.notFound, []⟩ s)
      ∧ ∀ p, s.permit? card = some p →
        (p.state = .active → exec (.permitSuspend tag (b4 card)) s =
            suspend ⟨.ok, []⟩ (s.modPermit card fun q => { q with state := .suspended })
          ∧ exec (.permitResume tag (b4 card)) s = resume ⟨.ok, []⟩ s)
        ∧ (p.state = .suspended → exec (.permitSuspend tag (b4 card)) s = suspend ⟨.ok, []⟩ s
          ∧ exec (.permitResume tag (b4 card)) s =
            resume ⟨.ok, []⟩ (s.modPermit card fun q => { q with state := .active }))
        ∧ (p.state = .locked ∨ p.state = .retiring →
          exec (.permitSuspend tag (b4 card)) s = suspend ⟨.wrongState, [0x00]⟩ s
          ∧ exec (.permitResume tag (b4 card)) s = resume ⟨.wrongState, [0x00]⟩ s)) ∧
  (∀ (s : State) (tag : Byte) (card : Nat), s.linkIdle → 1 ≤ card → card ≤ 4294967294 →
      let unlock := fun a t => Host.Outcome.next (φ := Fault) (ρ := Refusal) (State.answered 0x14 tag (b4 card) a t)
      let retire := fun a t => Host.Outcome.next (φ := Fault) (ρ := Refusal) (State.answered 0x15 tag (b4 card) a t)
      (s.permit? card = none → exec (.permitUnlock tag (b4 card)) s = unlock ⟨.notFound, []⟩ s
        ∧ exec (.permitRetire tag (b4 card)) s = retire ⟨.notFound, []⟩ s)
      ∧ ∀ p, s.permit? card = some p →
        (p.state = .locked → exec (.permitUnlock tag (b4 card)) s =
          unlock ⟨.ok, []⟩ (s.modPermit card fun q => { q with state := .active, strikes := 0 }))
        ∧ (p.state = .active ∨ p.state = .suspended → exec (.permitUnlock tag (b4 card)) s =
          unlock ⟨.ok, []⟩ (s.modPermit card fun q => { q with strikes := 0 }))
        ∧ (p.state = .retiring → exec (.permitUnlock tag (b4 card)) s = unlock ⟨.wrongState, [0x00]⟩ s
          ∧ exec (.permitRetire tag (b4 card)) s = retire ⟨.ok, [0x03]⟩ s)
        ∧ (p.state ≠ .retiring → p.boundOrder = none → exec (.permitRetire tag (b4 card)) s =
          retire ⟨.ok, [0x02]⟩ { s with permits := s.permits.filter fun q => q.card != card })
        ∧ (p.state ≠ .retiring → p.boundOrder ≠ none → exec (.permitRetire tag (b4 card)) s =
          retire ⟨.ok, [0x03]⟩ (s.modPermit card fun q => { q with state := .retiring })))

/-- PERMIT GET returns a card's record in the layout of R196, and WALK the record of the smallest card at or above its key;
neither changes anything (R8, R9). The premise that the table stands in ascending card order, which every step keeps
(`Obligations.StepKeepsPermits`), is the model's choice (log 13). -/
def Obligations.PermitReads : Prop :=
  ∀ (s : State) (tag : Byte) (key : Nat), s.linkIdle → s.permits.Pairwise (fun p q => p.card < q.card) → key ≤ 4294967295 →
    let record := fun p : Permit => b4 p.card ++ b1 p.state.code ++ b2 p.carrier ++ b2 p.endorsements.toNat
      ++ b2 p.validFrom ++ b2 p.validUntil ++ b4 (p.allowance.getD 0xFFFFFFFF) ++ b4 p.used ++ b4 p.reserved
      ++ b1 p.strikes ++ b4 (p.boundOrder.getD 0)
    (∀ p, cardIdValid key = true → s.permit? key = some p →
      exec (.permitGet tag (b4 key)) s = .next (s.answered 0x11 tag (b4 key) ⟨.ok, record p⟩))
    ∧ (cardIdValid key = true → s.permit? key = none →
      exec (.permitGet tag (b4 key)) s = .next (s.answered 0x11 tag (b4 key) ⟨.notFound, []⟩))
    ∧ (∀ p ∈ s.permits, key ≤ p.card → (∀ q ∈ s.permits, key ≤ q.card → p.card ≤ q.card) →
      exec (.walk tag (b4 key)) s = .next (s.answered 0x16 tag (b4 key) ⟨.ok, record p⟩))
    ∧ ((∀ p ∈ s.permits, p.card < key) →
      exec (.walk tag (b4 key)) s = .next (s.answered 0x16 tag (b4 key) ⟨.notFound, []⟩))

/-- The card-in check's tests in their order (R10).
The reservation of a start and its trim, and the charge of an end with its strike (R14, R15, R16, R18). -/
def Obligations.PermitChecksAndCharges : Prop :=
  (∀ (p : Permit) (today : Nat),
      cardInCheck none today = some .noPermit
      ∧ cardInCheck (some p) today =
        if p.state = .suspended then some .suspended
        else if p.state = .locked then some .locked
        else if p.state = .retiring then some .retiring
        else if today < p.validFrom then some .notYetValid
        else if p.validUntil < today then some .expired
        else if p.boundOrder ≠ none then some .cardInUse
        else none) ∧
  (∀ (p : Permit) (remainder held net : Nat),
      let full := (remainder + 999) / 1000
      (p.allowance = none → p.reservation remainder = some ⟨remainder, full, false⟩)
      ∧ (∀ x, p.allowance = some x → p.used + p.reserved + full ≤ x → p.reservation remainder = some ⟨remainder, full, false⟩)
      ∧ (∀ x avail, p.allowance = some x → x < p.used + p.reserved + full → p.used + p.reserved + avail = x → 100 ≤ avail →
        p.reservation remainder = some ⟨avail * 1000, avail, true⟩)
      ∧ (∀ x, p.allowance = some x → x < p.used + p.reserved + full → x < p.used + p.reserved + 100 →
        p.reservation remainder = none)
      ∧ p.charge held net false =
        { p with reserved := p.reserved - held, used := min 9999999 (p.used + (net + 500) / 1000) }
      ∧ (p.strikes < 2 → p.charge held net true = { p.charge held net false with strikes := p.strikes + 1 })
      ∧ (p.strikes = 2 → p.state = .active ∨ p.state = .suspended →
        p.charge held net true = { p.charge held net false with strikes := 3, state := .locked })
      ∧ (p.strikes = 2 → p.state = .retiring → p.charge held net true = { p.charge held net false with strikes := 3 })
      ∧ (p.strikes = 3 → p.state = .locked ∨ p.state = .retiring → p.charge held net true = p.charge held net false))

/-! ## Orders -/

/-- ORDER POST in the layout of R197: BAD_VALUE for an invalid order; a valid one joins the end of the post sequence with every
line OPEN, or is refused IN_USE or FULL (R23). -/
def Obligations.OrderPost : Prop :=
  (∀ (s : State) (tag : Byte) (no card bay : Nat) (lines : List LineBody), s.linkIdle → no ≤ 4294967295 →
      card ≤ 4294967295 → bay ≤ 255 → lines.length ≤ 23 →
      (∀ l ∈ lines, l.compartment ≤ 255 ∧ l.product ≤ 65535 ∧ l.presetL ≤ 4294967295 ∧ l.basisCode ≤ 255
        ∧ l.recipeCode ≤ 65535) →
      let body := b4 no ++ b4 card ++ b1 bay ++ b1 lines.length
        ++ lines.flatMap fun l => b1 l.compartment ++ b2 l.product ++ b4 l.presetL ++ b1 l.basisCode ++ b2 l.recipeCode
      no = 0 ∨ 999999 < no ∨ card = 0 ∨ card = 4294967295 ∨ (7 < bay ∧ bay ≠ 0xFF) ∨ lines = [] ∨ 8 < lines.length
        ∨ ¬ (lines.map (·.compartment)).Nodup
        ∨ (∃ l ∈ lines, l.compartment = 0 ∨ 8 < l.compartment ∨ l.product = 0 ∨ 9999 < l.product ∨ l.presetL < 100
          ∨ 99999 < l.presetL ∨ 1 < l.basisCode ∨ l.recipeCode = 0 ∨ (255 < l.recipeCode ∧ l.recipeCode ≠ 0xFFFF)) →
      exec (.orderPost tag body) s = .next (s.answered 0x20 tag body ⟨.badValue, []⟩)) ∧
  ∀ (s : State) (tag : Byte) (no card : Nat) (bay : Option Nat) (lines : List LineBody),
    s.linkIdle → 1 ≤ no → no ≤ 999999 → 1 ≤ card → card ≤ 4294967294 → (∀ b ∈ bay, b ≤ 7) →
    1 ≤ lines.length → lines.length ≤ 8 → (lines.map (·.compartment)).Nodup →
    (∀ l ∈ lines, 1 ≤ l.compartment ∧ l.compartment ≤ 8 ∧ 1 ≤ l.product ∧ l.product ≤ 9999 ∧ 100 ≤ l.presetL
      ∧ l.presetL ≤ 99999 ∧ l.basisCode ≤ 1 ∧ (l.recipeCode = 0xFFFF ∨ (1 ≤ l.recipeCode ∧ l.recipeCode ≤ 255))) →
    let body := b4 no ++ b4 card ++ b1 (bay.getD 0xFF) ++ b1 lines.length
      ++ lines.flatMap fun l => b1 l.compartment ++ b2 l.product ++ b4 l.presetL ++ b1 l.basisCode ++ b2 l.recipeCode
    let line := fun l : LineBody => (⟨l.compartment, l.product, l.presetL, if l.basisCode = 0 then .gross else .net,
      if l.recipeCode = 0xFFFF then none else some l.recipeCode, none, .opened, 0⟩ : Line)
    (s.order? no = none → s.orders.length < 64 → exec (.orderPost tag body) s =
      .next (State.answered 0x20 tag body ⟨.ok, []⟩
        { s with orders := s.orders ++ [⟨no, card, bay, .posted, none, none, lines.map line⟩] }))
    ∧ (s.order? no ≠ none → exec (.orderPost tag body) s = .next (s.answered 0x20 tag body ⟨.inUse, []⟩))
    ∧ (s.order? no = none → 64 ≤ s.orders.length →
      exec (.orderPost tag body) s = .next (s.answered 0x20 tag body ⟨.full, []⟩))

/-- ORDER GET returns the order in the layout of R197, lines of 25 bytes, and changes nothing (R21).
ORDER CANCEL: a POSTED order is removed, a BOUND one with its bay freed and its permit unbound, a LOADING one stays (R24). -/
def Obligations.OrderGetAndCancel : Prop :=
  (∀ (s : State) (tag : Byte) (no : Nat), s.linkIdle → no ≤ 4294967295 →
      let component := fun x : Option Component => match x with
        | some c => b1 c.cls ++ b2 c.dose ++ b1 (if c.mandatory then 1 else 0)
        | none => [0x00, 0x00, 0x00, 0x00]
      let line := fun l : Line =>
        let held := l.snapshot.getD []
        b1 l.compartment ++ b2 l.product ++ b4 l.presetL ++ b1 (if l.basis = .gross then 0 else 1)
          ++ b2 (l.recipe.getD 0xFFFF) ++ b1 l.state.code ++ b1 l.segmentsUsed ++ b1 held.length
          ++ component held[0]? ++ component held[1]? ++ component held[2]?
      (s.order? no = none → exec (.orderGet tag (b4 no)) s = .next (s.answered 0x21 tag (b4 no) ⟨.notFound, []⟩))
      ∧ ∀ before o after, s.orders = before ++ o :: after → o.orderNo = no → (∀ q ∈ before, q.orderNo ≠ no) →
        exec (.orderGet tag (b4 no)) s = .next (s.answered 0x21 tag (b4 no) ⟨.ok,
          b4 no ++ b4 o.card ++ b1 (o.bayPref.getD 0xFF) ++ b1 o.state.code ++ b1 ((o.bay.map (·.val)).getD 0xFF)
            ++ b1 ((o.noteSlot.map (·.val)).getD 0xFF) ++ b2 (before.length + 1) ++ b1 o.lines.length
            ++ o.lines.flatMap line⟩)
        ∧ ∀ l ∈ o.lines, (line l).length = 25) ∧
  (∀ (s : State) (tag : Byte) (no : Nat) (o : Order), s.linkIdle → no ≤ 4294967295 → s.order? no = some o →
      (o.state = .posted → exec (.orderCancel tag (b4 no)) s = .next (State.answered 0x22 tag (b4 no) ⟨.ok, []⟩
        { s with orders := s.orders.filter fun q => q.orderNo != no }))
      ∧ (o.state = .loading → exec (.orderCancel tag (b4 no)) s = .next (s.answered 0x22 tag (b4 no) ⟨.wrongState, [0x00]⟩))
      ∧ (∀ b, o.state = .bound → o.bay = some b → (s.bay b).closePending = false →
        ∃ t : State, exec (.orderCancel tag (b4 no)) s = .next (t.answered 0x22 tag (b4 no) ⟨.ok, []⟩)
          ∧ t.orders = s.orders.filter (fun q => q.orderNo != no)
          ∧ t.bay b = { s.bay b with
              state := .idle, card := none, boundOrder := none, closePending := false, holdWindow := none
              cardIdleTimer := none, display := some (.done 0) }
          ∧ (∀ p, s.permit? o.card = some p → t.permit? o.card = unbound p) ∧ OtherPermits o.card s t
          ∧ t.outputs = s.outputs ++ [.prompt b (.done 0)] ∧ OtherBays b s t
          ∧ SameExcept [.permits, .orders, .bays, .att, .outputs] s t))

/-- A visit is closed by END, by ORDER END and by BAY CLOSE of a LOADING order, at a bay in CARDED, LOADING, HOLD or TRIPPED
with no segment, and at CARDED with a note slot by the card idle timer (R28, R31, R39, R42).
With segments that have a valve to close, the bay enters ENDING and they close by their phases (R42, R70); a segment in
acquisition ends at once, and the visit then goes on to ENDING or closes (R65, R42).
ORDER END of a POSTED order is answered WRONG_STATE, of an absent one NOT_FOUND (R42). -/
def Obligations.VisitCloses : Prop :=
  (∀ (s : State) (b : BayId) (no : Nat) (o : Order), (s.bay b).boundOrder = some no → s.order? no = some o →
      no ≤ 4294967295 →
      let asked := fun (P : State → State → Prop) =>
        (∃ t : State, exec (.endVisit b) s = .next t ∧ P s t)
        ∧ (∀ tag, s.linkIdle → o.state ≠ .posted → o.bay = some b →
          ∃ t : State, exec (.orderEnd tag (b4 no)) s = .next (t.answered 0x23 tag (b4 no) ⟨.ok, []⟩) ∧ P s t)
        ∧ (∀ tag, s.linkIdle → o.state = .loading →
          ∃ t : State, exec (.bayClose tag (b1 b.val)) s = .next (t.answered 0x29 tag (b1 b.val) ⟨.ok, []⟩)
            ∧ P (s.modBay b fun x => { x with closePending := true }) t)
      ((s.bay b).state = .carded →
        (∃ t : State, exec (.endVisit b) s = .next t ∧ VisitClosed b o s t)
        ∧ (∀ tag, s.linkIdle → o.state ≠ .posted → o.bay = some b →
          ∃ t : State, exec (.orderEnd tag (b4 no)) s = .next (t.answered 0x23 tag (b4 no) ⟨.ok, []⟩) ∧ VisitClosed b o s t)
        ∧ ((s.bay b).cardIdleTimer ≠ none → o.noteSlot ≠ none →
          ∃ t : State, exec (.cardIdleTimerExpiry b) s = .next t ∧ VisitClosed b o s t))
      ∧ ((s.bay b).state = .carded ∨ (s.bay b).state = .loading ∨ (s.bay b).state = .hold ∨ (s.bay b).state = .tripped →
        (∀ a g, s.seg? a = some g → g.bay ≠ b) → asked (VisitClosed b o))
      ∧ ((s.bay b).state = .loading ∨ (s.bay b).state = .hold ∨ (s.bay b).state = .tripped →
        (∃ a g, s.seg? a = some g ∧ g.bay = b) →
        (∀ a g, s.seg? a = some g → g.bay = b → g.phase ≠ .awaitProfile ∧ g.phase ≠ .awaitInjector) →
        asked fun x t => t.bay b = { x.bay b with state := .ending, holdWindow := none }
          ∧ (∀ a, t.arm a = armShut b .stopped (s.arm a)) ∧ OtherBays b s t ∧ SameExcept [.bays, .arms, .att] s t)
      ∧ (∀ a g l p, (s.bay b).state = .loading → Uncounted a g o l p s → g.bay = b →
        (g.phase = .awaitProfile ∨ g.phase = .awaitInjector) →
        (∀ c h, c ≠ a → s.seg? c = some h → h.bay = b → h.phase ≠ .awaitProfile ∧ h.phase ≠ .awaitInjector) →
        asked fun x t => ∃ u : State, UncountedEnd a g o p .stopped .idle none s u
          ∧ u.outputs = s.outputs ++ [.prompt b (.stopped a .stopped)]
          ∧ (∀ c, c ≠ a → u.arm c = armShut b .stopped (s.arm c)) ∧ OtherBays b s u
          ∧ u.bay b = { x.bay b with holdWindow := none, display := some (.stopped a .stopped) }
          ∧ SameExcept [.permits, .orders, .bays, .arms, .cache, .dosing, .att, .outputs] s u
          ∧ (OtherSegment a b s → t.bay b = { u.bay b with state := .ending } ∧ OtherBays b u t ∧ SameExcept [.bays, .att] u t)
          ∧ (¬ OtherSegment a b s → ∃ q, u.order? no = some q ∧ VisitClosed b q u t))) ∧
  (∀ (s : State) (tag : Byte) (no : Nat), s.linkIdle → no ≤ 4294967295 →
      (s.order? no = none → exec (.orderEnd tag (b4 no)) s = .next (s.answered 0x23 tag (b4 no) ⟨.notFound, []⟩))
      ∧ (∀ o, s.order? no = some o → o.state = .posted →
        exec (.orderEnd tag (b4 no)) s = .next (s.answered 0x23 tag (b4 no) ⟨.wrongState, [0x00]⟩)))

/-! ## Bays -/

/-- BAY OPEN: a CLOSED bay enters IDLE, an ENDING bay loses its close pending, no other bay changes (R30).
BAY CLOSE at a CLOSED, IDLE, AUTHORIZING or ENDING bay, and at a CARDED, HOLD or TRIPPED bay whose BOUND order it reverts
(R31, R26). -/
def Obligations.BayOpenAndClose : Prop :=
  (∀ (s : State) (tag : Byte) (b : BayId), s.linkIdle →
      ((s.bay b).state = .closed → exec (.bayOpen tag (b1 b.val)) s = .next (State.answered 0x28 tag (b1 b.val) ⟨.ok, []⟩
        ((s.modBay b fun x => { x with state := .idle }).mark (.bay b))))
      ∧ ((s.bay b).state = .ending → exec (.bayOpen tag (b1 b.val)) s = .next (State.answered 0x28 tag (b1 b.val) ⟨.ok, []⟩
        (s.modBay b fun x => { x with closePending := false })))
      ∧ ((s.bay b).state ≠ .closed → (s.bay b).state ≠ .ending →
        exec (.bayOpen tag (b1 b.val)) s = .next (s.answered 0x28 tag (b1 b.val) ⟨.ok, []⟩))) ∧
  (∀ (s : State) (tag : Byte) (b : BayId), s.linkIdle →
      ((s.bay b).state = .closed → exec (.bayClose tag (b1 b.val)) s = .next (s.answered 0x29 tag (b1 b.val) ⟨.ok, []⟩))
      ∧ ((s.bay b).state = .idle → exec (.bayClose tag (b1 b.val)) s = .next (State.answered 0x29 tag (b1 b.val) ⟨.ok, []⟩
        ((s.modBay b fun x => { x with state := .closed }).mark (.bay b))))
      ∧ ((s.bay b).state = .ending → exec (.bayClose tag (b1 b.val)) s = .next (State.answered 0x29 tag (b1 b.val) ⟨.ok, []⟩
        (s.modBay b fun x => { x with closePending := true })))
      ∧ ((s.bay b).state = .authorizing → ∃ t : State,
        exec (.bayClose tag (b1 b.val)) s = .next (t.answered 0x29 tag (b1 b.val) ⟨.ok, []⟩)
          ∧ t.bay b = { s.bay b with
              state := .closed, card := none, referralTimer := none, display := some (.refused .bayClosed) }
          ∧ t.referrals = s.referrals.filter (fun r => r.bay != b) ∧ ReferralMarked s t
          ∧ t.outputs = s.outputs ++ [.prompt b (.refused .bayClosed)] ∧ OtherBays b s t
          ∧ SameExcept [.referrals, .bays, .att, .outputs] s t)
      ∧ (∀ no o, (s.bay b).state = .carded ∨ (s.bay b).state = .hold ∨ (s.bay b).state = .tripped →
        (s.bay b).boundOrder = some no → s.order? no = some o → o.state = .bound →
        s.segArms b = [] → s.waitArms b = [] → ∃ t : State,
        exec (.bayClose tag (b1 b.val)) s = .next (t.answered 0x29 tag (b1 b.val) ⟨.ok, []⟩)
          ∧ t.orders = s.orders.map (fun q => if q.orderNo = o.orderNo then { q with state := .posted, bay := none } else q)
          ∧ t.bay b = { s.bay b with
              state := .closed, card := none, boundOrder := none, closePending := false, holdWindow := none
              cardIdleTimer := none, display := some (.done 0) }
          ∧ (∀ p, s.permit? o.card = some p → t.permit? o.card = unbound p) ∧ OtherPermits o.card s t
          ∧ t.outputs = s.outputs ++ [.prompt b (.done 0)] ∧ OtherBays b s t
          ∧ SameExcept [.permits, .orders, .bays, .att, .outputs] s t))

/-- BAY GET returns the bay record in the layout of R195 with the claimed arms, and changes nothing (R29). -/
def Obligations.BayGet : Prop :=
  ∀ (s : State) (tag : Byte) (b : BayId), s.linkIdle → ∃ mask : Nat, ∃ claims : List Byte,
    exec (.bayGet tag (b1 b.val)) s = .next (s.answered 0x2A tag (b1 b.val) ⟨.ok,
      b1 (s.bay b).state.code ++ b4 ((s.bay b).card.getD 0) ++ b4 ((s.bay b).boundOrder.getD 0)
        ++ b1 ((if (s.bay b).inputs.ground then 0 else 1) + (if (s.bay b).inputs.vapour then 0 else 2)
          + (if (s.bay b).inputs.overfill then 0 else 4) + (if (s.bay b).inputs.estop then 0 else 8))
        ++ b1 (s.bay b).holdFlags.toNat ++ b1 (((s.bay b).holdWindow.getD 0 + 999) / 1000)
        ++ b1 ((if (s.bay b).referralTimer.isSome then 1 else 0) + (if (s.bay b).cardIdleTimer.isSome then 2 else 0)
          + (if (s.bay b).closePending then 4 else 0)) ++ claims⟩)
    ∧ claims = b1 (mask / 65536) ++ b2 mask ∧ ∀ a : ArmId, mask.testBit a.val = ((s.arm a).claim == some b)

/-- HOLD SET and HOLD CLEAR: recorded alone at a bay without a visit; a loss at CARDED enters HOLD without a window, a loss at
LOADING pauses what flows under a window of 120 s (R43, R44, R70).
A restoration at HOLD: without a waiting arm the bay is LOADING again while a segment remains, and takes the CARDED entry
otherwise; with its window running the resume of a waiting arm is offered, and is refused or taken as a start is
(R45, R76, R38). That a bay which a resumed segment's end has brought to CARDED takes the CARDED entry again behind the last
arm is the model's reading (log 10), and so is the place of the LOADING prompt (log 9). -/
def Obligations.HoldFlags : Prop :=
  ∀ (s : State) (tag : Byte) (b : BayId) (mask : Byte), s.linkIdle →
    let body := b1 b.val ++ [mask]
    ((s.bay b).state = .closed ∨ (s.bay b).state = .idle ∨ (s.bay b).state = .authorizing ∨ (s.bay b).state = .ending →
      exec (.holdSet tag body) s = .next (State.answered 0x2B tag body ⟨.ok, []⟩
          (s.modBay b fun x => { x with holdFlags := x.holdFlags ||| mask }))
        ∧ exec (.holdClear tag body) s = .next (State.answered 0x2C tag body ⟨.ok, []⟩
          (s.modBay b fun x => { x with holdFlags := x.holdFlags &&& ~~~mask })))
    ∧ ((s.bay b).state = .carded → (s.bay b).permitted = true → mask ≠ 0 → ∃ t : State,
      exec (.holdSet tag body) s = .next (t.answered 0x2B tag body ⟨.ok, []⟩)
        ∧ t.bay b = { s.bay b with
            state := .hold, holdFlags := mask, cardIdleTimer := none, holdWindow := none, display := some (.hold 0) }
        ∧ t.outputs = s.outputs ++ [.prompt b (.hold 0)] ∧ OtherBays b s t ∧ SameExcept [.bays, .att, .outputs] s t)
    ∧ ((s.bay b).state = .loading → (s.bay b).permitted = true → mask ≠ 0 → s.acquiringArms b = [] → ∃ t : State,
      exec (.holdSet tag body) s = .next (t.answered 0x2B tag body ⟨.ok, []⟩)
        ∧ t.bay b = { s.bay b with
            state := .hold, holdFlags := mask, holdWindow := some 120000, display := some (.hold 120) }
        ∧ t.outputs = s.outputs ++ [.prompt b (.hold 120)] ∧ OtherBays b s t ∧ SameExcept [.bays, .arms, .att, .outputs] s t
        ∧ ∀ a, t.arm a = (s.arm a).modSeg fun g =>
            if g.bay = b ∧ (g.phase = .lowStart ∨ g.phase = .high ∨ g.phase = .lowStop) then
              { g with phase := .pausing, endCause := some .hold, closeRecorded := true, closeCounter := 0, zeroRun := 0 }
            else g)
    ∧ ∀ no o, (s.bay b).state = .hold → allHealthy (s.bay b).inputs = true → (s.bay b).holdFlags ≠ 0 →
      (s.bay b).holdFlags &&& ~~~mask = 0 → (s.bay b).boundOrder = some no → s.order? no = some o →
      Restores b no o (s.modBay b fun x => { x with holdFlags := 0 })
        fun t => exec (.holdClear tag body) s = .next (t.answered 0x2C tag body ⟨.ok, []⟩)

/-- AUTH GRANT binds an acceptable order at an AUTHORIZING bay; it is answered LATE elsewhere, BAD_VALUE for an order that
does not fit, and WRONG_STATE with the reason when the bind refuses (R35).
AUTH DENY and the referral timer's expiry end a referral; REFERRAL LIST returns the list (R36, R37, R34). The list's emptying
marks it as its edge selection asks (R168). -/
def Obligations.ReferralRequests : Prop :=
  (∀ (s : State) (tag : Byte) (b : BayId) (no : Nat), s.linkIdle → no ≤ 4294967295 →
      let body := b1 b.val ++ b4 no
      ((s.bay b).state ≠ .authorizing → exec (.authGrant tag body) s = .next (s.answered 0x2D tag body ⟨.late, []⟩))
      ∧ ((s.bay b).state = .authorizing → s.order? no = none →
        exec (.authGrant tag body) s = .next (s.answered 0x2D tag body ⟨.badValue, []⟩))
      ∧ (∀ o, (s.bay b).state = .authorizing → s.order? no = some o → (o.state ≠ .posted ∨ (s.bay b).card ≠ some o.card) →
        exec (.authGrant tag body) s = .next (s.answered 0x2D tag body ⟨.badValue, []⟩))
      ∧ (∀ o r, (s.bay b).state = .authorizing → s.order? no = some o → o.state = .posted → (s.bay b).card = some o.card →
        cardInCheck (s.permit? o.card) s.clock.day = some r → ∃ t : State,
        exec (.authGrant tag body) s = .next (t.answered 0x2D tag body ⟨.wrongState, b1 r.code⟩)
          ∧ t.bay b = { s.bay b with state := .idle, card := none, referralTimer := none, display := some (.refused r) }
          ∧ t.referrals = s.referrals.filter (fun x => x.bay != b) ∧ t.outputs = s.outputs ++ [.prompt b (.refused r)]
          ∧ ReferralMarked s t ∧ OtherBays b s t ∧ SameExcept [.referrals, .bays, .att, .outputs] s t)
      ∧ (∀ o p, (s.bay b).state = .authorizing → s.order? no = some o → o.state = .posted → (s.bay b).card = some o.card →
        s.permit? o.card = some p → cardInCheck (some p) s.clock.day = none → (s.bay b).permitted = true →
        (∃ l ∈ o.lines, l.state = .opened) →
        let select : Prompt := .select (o.lines.filter fun l => l.state == .opened || l.state == .part).length
        ∃ t : State, exec (.authGrant tag body) s = .next (t.answered 0x2D tag body ⟨.ok, []⟩)
          ∧ t.bay b = { s.bay b with
              state := .carded, boundOrder := some no, card := some o.card, referralTimer := none
              cardIdleTimer := some 600000, display := some select }
          ∧ t.order? no = some { o with state := .bound, bay := some b }
          ∧ t.permit? o.card = some { p with boundOrder := some no }
          ∧ t.referrals = s.referrals.filter (fun x => x.bay != b) ∧ ReferralMarked s t
          ∧ t.outputs = s.outputs ++ [.prompt b (.welcome no), .prompt b select]
          ∧ OtherPermits o.card s t ∧ OtherOrders no s t ∧ OtherBays b s t
          ∧ SameExcept [.permits, .orders, .referrals, .bays, .att, .outputs] s t)) ∧
  (∀ (s : State) (tag : Byte) (b : BayId),
      (s.linkIdle → (s.bay b).state ≠ .authorizing →
        exec (.authDeny tag (b1 b.val)) s = .next (s.answered 0x2E tag (b1 b.val) ⟨.late, []⟩))
      ∧ (s.linkIdle → (s.bay b).state = .authorizing → ∃ t : State,
        exec (.authDeny tag (b1 b.val)) s = .next (t.answered 0x2E tag (b1 b.val) ⟨.ok, []⟩)
          ∧ t.bay b = { s.bay b with state := .idle, card := none, referralTimer := none, display := some (.refused .denied) }
          ∧ t.referrals = s.referrals.filter (fun x => x.bay != b) ∧ t.outputs = s.outputs ++ [.prompt b (.refused .denied)]
          ∧ ReferralMarked s t ∧ OtherBays b s t ∧ SameExcept [.referrals, .bays, .att, .outputs] s t)
      ∧ ((s.bay b).state = .authorizing → (s.bay b).referralTimer ≠ none → ∃ t : State,
        exec (.referralTimerExpiry b) s = .next t
          ∧ t.bay b = { s.bay b with state := .idle, card := none, referralTimer := none, display := some (.refused .noAnswer) }
          ∧ t.referrals = s.referrals.filter (fun x => x.bay != b) ∧ t.outputs = s.outputs ++ [.prompt b (.refused .noAnswer)]
          ∧ ReferralMarked s t ∧ OtherBays b s t ∧ SameExcept [.referrals, .bays, .att, .outputs] s t)
      ∧ (s.linkIdle → exec (.referralList tag []) s = .next (s.answered 0x2F tag [] ⟨.ok,
        b1 s.referrals.length ++ s.referrals.flatMap fun r =>
          b1 r.bay.val ++ b4 r.card ++ b2 r.minute ++ b1 (((s.bay r.bay).referralTimer.getD 0 + 999) / 1000)⟩)))

/-- Card idle expiry without a note slot reverts the order; a timer that does not run has no expiry (R39, R26).
Hold window expiry releases the waiting arms and leaves the bay in HOLD without a timer (R46). That the expiry of a stopped
timer does nothing is the model's choice (log 3). -/
def Obligations.BayTimersExpire : Prop :=
  (∀ (s : State) (b : BayId),
      ((s.bay b).cardIdleTimer = none → exec (.cardIdleTimerExpiry b) s = .next s)
      ∧ ∀ no o, (s.bay b).state = .carded → (s.bay b).cardIdleTimer ≠ none → (s.bay b).boundOrder = some no →
        s.order? no = some o → o.noteSlot = none → (s.bay b).closePending = false → ∃ t : State,
        exec (.cardIdleTimerExpiry b) s = .next t
          ∧ t.order? no = some { o with state := .posted, bay := none } ∧ t.orders.map (·.orderNo) = s.orders.map (·.orderNo)
          ∧ OtherOrders no s t ∧ OtherPermits o.card s t ∧ OtherBays b s t
          ∧ SameExcept [.permits, .orders, .bays, .att, .outputs] s t
          ∧ (∀ p, s.permit? o.card = some p → t.permit? o.card = unbound p)
          ∧ t.bay b = { s.bay b with
              state := .idle, card := none, boundOrder := none, holdWindow := none, cardIdleTimer := none
              display := some (.done 0) }
          ∧ t.outputs = s.outputs ++ [.prompt b (.done 0)]) ∧
  (∀ (s : State) (b : BayId),
      ((s.bay b).holdWindow = none → exec (.holdWindowExpiry b) s = .next s)
      ∧ ((s.bay b).state = .hold → (s.bay b).holdWindow ≠ none → ∃ t : State, exec (.holdWindowExpiry b) s = .next t
        ∧ t.bay b = { s.bay b with holdWindow := none, display := some (.hold 0) }
        ∧ (∀ a, t.arm a = if (s.arm a).waitsFor b then { s.arm a with status := .idle, claim := none } else s.arm a)
        ∧ (∀ a, (s.arm a).waitsFor b = true → (t.att.occurrences[a]).released = true ∧ t.att.armMarks[a] = true)
        ∧ t.outputs = s.outputs ++ [.prompt b (.hold 0)] ∧ OtherBays b s t ∧ SameExcept [.bays, .arms, .att, .outputs] s t))

/-! ## The panel -/

/-- A CARD frame: BUSY away from IDLE, with the card idle timer of a CARDED bay restarted, the check's reason on a failure, a
referral in REFERRED mode, which marks the referral list as an onset does, and in STANDALONE mode NO_ORDER or the bind of the oldest
order for the card and the bay (R33, R25, R34, R38, R39, R168). -/
def Obligations.CardFrame : Prop :=
  ∀ (s : State) (b : BayId) (card : Nat), 1 ≤ card → card ≤ 4294967294 →
    let fits := fun o : Order => o.state == .posted && o.card == card && (o.bayPref == none || o.bayPref == some b.val)
    ((s.bay b).state ≠ .idle → exec (.card b card) s = .next ((s.modBay b fun x => { x with
        display := some .busy
        cardIdleTimer := if x.state = .carded then some 600000 else x.cardIdleTimer }).emit (.prompt b .busy)))
    ∧ (∀ r, (s.bay b).state = .idle → cardInCheck (s.permit? card) s.clock.day = some r → exec (.card b card) s =
      .next ((s.modBay b fun x => { x with display := some (.refused r) }).emit (.prompt b (.refused r))))
    ∧ ((s.bay b).state = .idle → cardInCheck (s.permit? card) s.clock.day = none → s.settings.mode = .standalone →
      (∀ o ∈ s.orders, fits o = false) → exec (.card b card) s =
        .next ((s.modBay b fun x => { x with display := some (.refused .noOrder) }).emit (.prompt b (.refused .noOrder))))
    ∧ ((s.bay b).state = .idle → cardInCheck (s.permit? card) s.clock.day = none → s.settings.mode = .referred → ∃ t : State,
      exec (.card b card) s = .next t
        ∧ t.bay b = { s.bay b with
            state := .authorizing, card := some card, referralTimer := some 30000, display := some .checking }
        ∧ t.referrals = s.referrals ++ [⟨b, card, s.clock.minute⟩] ∧ ReferralMarked s t
        ∧ t.outputs = s.outputs ++ [.prompt b .checking]
        ∧ OtherBays b s t ∧ SameExcept [.referrals, .bays, .att, .outputs] s t)
    ∧ (∀ p o before after, (s.bay b).state = .idle → s.permit? card = some p → cardInCheck (some p) s.clock.day = none →
      s.settings.mode = .standalone → s.orders = before ++ o :: after → (∀ q ∈ before, fits q = false) → fits o = true →
      (∀ q ∈ before, q.orderNo ≠ o.orderNo) → (s.bay b).permitted = true → (∃ l ∈ o.lines, l.state = .opened) →
      let select : Prompt := .select (o.lines.filter fun l => l.state == .opened || l.state == .part).length
      ∃ t : State, exec (.card b card) s = .next t
        ∧ t.bay b = { s.bay b with
            state := .carded, card := some card, boundOrder := some o.orderNo, cardIdleTimer := some 600000
            display := some select }
        ∧ t.order? o.orderNo = some { o with state := .bound, bay := some b }
        ∧ t.permit? card = some { p with boundOrder := some o.orderNo }
        ∧ t.outputs = s.outputs ++ [.prompt b (.welcome o.orderNo), .prompt b select]
        ∧ OtherPermits card s t ∧ OtherOrders o.orderNo s t ∧ OtherBays b s t
        ∧ SameExcept [.permits, .orders, .bays, .att, .outputs] s t)

/-- Frames that change no visit: a malformed frame, END at CLOSED or IDLE or ENDING, and a STOP for an arm that neither serves nor
waits for the bay, which restarts the card idle timer of a CARDED bay; and END at AUTHORIZING, which ends the referral (R32, R42,
R40, R39, R34, R168). -/
def Obligations.PanelFrames : Prop :=
  ∀ (s : State) (b : BayId) (a : ArmId),
    exec (.malformedPanelFrame b) s = .next s
    ∧ ((s.bay b).state = .closed ∨ (s.bay b).state = .idle → exec (.endVisit b) s = .next s)
    ∧ ((s.bay b).state = .ending → exec (.endVisit b) s =
      .next ((s.modBay b fun x => { x with display := some .busy }).emit (.prompt b .busy)))
    ∧ ((s.bay b).state = .authorizing → ∃ t : State, exec (.endVisit b) s = .next t
      ∧ t.bay b = { s.bay b with state := .idle, card := none, referralTimer := none, display := some (.done 0) }
      ∧ t.referrals = s.referrals.filter (fun r => r.bay != b) ∧ t.outputs = s.outputs ++ [.prompt b (.done 0)]
      ∧ ReferralMarked s t ∧ OtherBays b s t ∧ SameExcept [.referrals, .bays, .att, .outputs] s t)
    ∧ ((∀ g, s.seg? a = some g → g.bay ≠ b) → (s.arm a).waitsFor b = false →
      exec (.stop b a.val) s = .next ((s.modBay b fun x => { x with
        display := some (.refused .noSegment)
        cardIdleTimer := if x.state = .carded then some 600000 else x.cardIdleTimer }).emit
          (.prompt b (.refused .noSegment))))

/-! ## Arms -/

/-- A START, or an ARM START, that passes the checks of R56: its claim, its segment, its reservation, its note slot, its line, its
bay and order; then within the event the lookup, with a want on a miss, and on a hit the recipe's claims and waits, the note
opened and counted and LOW_START, or an end without a count (R59, R60, R61, R62, R64). The place of the LOADING prompt is the
model's reading (log 9). -/
def Obligations.StartAccepted : Prop :=
  ∀ (s : State) (b : BayId) (a : ArmId) (o : Order) (l : Line) (p : Permit) (r : Reservation) (tag : Byte),
    1 ≤ l.compartment → l.compartment ≤ 8 → ((s.bay b).state = .carded ∨ (s.bay b).state = .loading) →
    (s.arm a).status = .idle → StartPasses b a o l p r s → p.used ≤ 9999999 →
    let body := b1 b.val ++ b1 a.val ++ b1 l.compartment
    let effects := fun (origin : Origin) (t : State) => ∃ u k, StartTaken b a o l p r origin k s u
      ∧ Acquires a (acceptedSegment o l b origin r) k u t
    (∃ t : State, exec (.start b a.val l.compartment) s = .next t ∧ effects .panel t)
      ∧ (s.linkIdle → ∃ t : State, exec (.armStart tag body) s = .next (t.answered 0x32 tag body ⟨.ok, []⟩) ∧ effects .host t)

/-- A start is refused with the reason of the first check it fails, and takes no effect but the restart of a CARDED bay's card
idle timer by the panel's frame; ARM_BUSY marks the arm with the bay (R56, R57, R39, R40, R60). For an arm that already serves the
bay a START prompts LOADING alone and an ARM START is answered IN_USE (R40, R60); an ARM START that names no bay, arm or compartment
is answered BAD_VALUE (R60). -/
def Obligations.StartRefused : Prop :=
  (∀ (s : State) (b : BayId) (a : ArmId) (c : Nat) (tag : Byte), 1 ≤ c → c ≤ 8 → s.linkIdle →
    let body := b1 b.val ++ b1 a.val ++ b1 c
    let refused := fun (r : Reason) (t : State) =>
      exec (.start b a.val c) s = .next ((t.modBay b fun x => { x with
          display := some (.refused r)
          cardIdleTimer := if x.state = .carded then some 600000 else x.cardIdleTimer }).emit (.prompt b (.refused r)))
        ∧ exec (.armStart tag body) s = .next (t.answered 0x32 tag body ⟨.wrongState, b1 r.code⟩)
    (∀ g, s.seg? a = some g → g.bay = b →
      exec (.start b a.val c) s = .next ((s.modBay b fun x => { x with
          display := some (.loading a)
          cardIdleTimer := if x.state = .carded then some 600000 else x.cardIdleTimer }).emit (.prompt b (.loading a)))
        ∧ exec (.armStart tag body) s = .next (s.answered 0x32 tag body ⟨.inUse, []⟩))
    ∧ ((∀ g, s.seg? a = some g → g.bay ≠ b) →
      ((s.bay b).state = .hold ∨ (s.bay b).state = .tripped → refused .bayHold s)
      ∧ ((s.bay b).state = .closed ∨ (s.bay b).state = .idle ∨ (s.bay b).state = .authorizing ∨ (s.bay b).state = .ending →
        refused .notCarded s)
      ∧ ((s.bay b).state = .loading ∨ (s.bay b).state = .carded →
        (b ∉ (s.arm a).reach ∨ (s.arm a).products = [] → refused .wrongArm s)
        ∧ (b ∈ (s.arm a).reach → (s.arm a).products ≠ [] →
          ((s.arm a).status = .fault → refused .armFault s)
          ∧ (s.seg? a ≠ none ∨ (∃ no k, (s.arm a).status = .resumeWait no k) → refused .armBusy { s with att := { s.att with
              armMarks := s.att.armMarks.set a.val true a.isLt
              occurrences := s.att.occurrences.set a.val { s.att.occurrences[a] with
                busy := true, refusedBays := s.att.occurrences[a].refusedBays ||| BitVec.twoPow 8 b.val } a.isLt } })
          ∧ (∀ o, (s.arm a).status = .idle → s.boundOrder? b = some o →
            (o.line? c = none → refused .noLine s)
            ∧ ∀ l, o.line? c = some l →
              (l.state = .active → refused .lineBusy s)
              ∧ (l.state = .filled ∨ l.state = .spent ∨ (l.state ≠ .active ∧ s.remainder o.orderNo l = 0) → refused .lineDone s)
              ∧ (l.state = .opened ∨ l.state = .part → 0 < s.remainder o.orderNo l →
                (l.product ∉ (s.arm a).products → refused .wrongArm s)
                ∧ ∀ p, l.product ∈ (s.arm a).products → s.permit? o.card = some p →
                  (p.state ≠ .active ∨ s.clock.day < p.validFrom ∨ p.validUntil < s.clock.day → refused .permitStopped s)
                  ∧ (p.state = .active → p.validFrom ≤ s.clock.day → s.clock.day ≤ p.validUntil →
                    (p.endorsements.getLsbD (l.product / 1000) = false → refused .notEndorsed s)
                    ∧ (p.endorsements.getLsbD (l.product / 1000) = true →
                      (s.settings.cal = true → refused .calibrating s)
                      ∧ (s.settings.cal = false →
                        (o.noteSlot = none → (∀ k, s.slot k ≠ .free) → refused .notesFull s)
                        ∧ (o.noteSlot = none → (∃ k, s.slot k = .free) → s.notes.nextSerial = none → refused .serialSpent s)
                        ∧ (o.noteSlot ≠ none ∨ ((∃ k, s.slot k = .free) ∧ s.notes.nextSerial ≠ none) →
                          p.reservation (s.remainder o.orderNo l) = none → refused .allowance s)))))))))) ∧
  ∀ (s : State) (tag : Byte) (bay arm c : Nat), s.linkIdle → bay ≤ 255 → arm ≤ 255 → c ≤ 255 →
    (7 < bay ∨ 23 < arm ∨ c = 0 ∨ 8 < c) → exec (.armStart tag (b1 bay ++ b1 arm ++ b1 c)) s =
      .next (s.answered 0x32 tag (b1 bay ++ b1 arm ++ b1 c) ⟨.badValue, []⟩)

/-- ARM STOP, and a STOP of the bay's own arm: a flowing segment closes STOPPED, a pausing one turns to CLOSING and keeps its
counters, a closing one is unchanged, a wait is cancelled; an IDLE or FAULT arm answers WRONG_STATE (R70, R77, R40). -/
def Obligations.StopSegment : Prop :=
  ∀ (s : State) (a : ArmId) (tag : Byte),
    let body := b1 a.val
    let both := fun (b : BayId) (t : State) =>
      (s.linkIdle → exec (.armStop tag body) s = .next (t.answered 0x33 tag body ⟨.ok, []⟩))
        ∧ ((s.bay b).state ≠ .carded → exec (.stop b a.val) s = .next t)
    (∀ g, s.seg? a = some g → (g.phase = .lowStart ∨ g.phase = .high ∨ g.phase = .lowStop) →
      both g.bay (s.modSeg a fun x => { x with
        phase := .closing, endCause := some .stopped, closeRecorded := true, closeCounter := 0, zeroRun := 0 }))
    ∧ (∀ g, s.seg? a = some g → g.phase = .pausing →
      both g.bay (s.modSeg a fun x => { x with phase := .closing, endCause := some .stopped }))
    ∧ (∀ g, s.seg? a = some g → g.phase = .closing → both g.bay s)
    ∧ (∀ o c b, (s.arm a).status = .resumeWait o c → (s.arm a).claim = some b → ∃ t : State, both b t
      ∧ t.arm a = { s.arm a with status := .idle, claim := none }
      ∧ t.bay b = { s.bay b with display := some (.stopped a .stopped) }
      ∧ t.outputs = s.outputs ++ [.prompt b (.stopped a .stopped)] ∧ (t.att.occurrences[a]).released = true
      ∧ OtherArms a s t ∧ OtherBays b s t ∧ SameExcept [.bays, .arms, .att, .outputs] s t)
    ∧ (s.linkIdle → (s.arm a).status = .idle ∨ (s.arm a).status = .fault →
      exec (.armStop tag body) s = .next (s.answered 0x33 tag body ⟨.wrongState, [0x00]⟩))

/-- ARM SET, ARM GET with its segment, and ARM CLEAR (R52, R78, R195), with the BAD_VALUE of each (R52, R77, R78). That the
product set is returned in the order in which it was sent is the model's choice (log 20), and so are the bytes of an absent last
end but for its order number (log 29). -/
def Obligations.ArmRequests : Prop :=
  (∀ (s : State) (tag : Byte) (a : Nat) (bays products : List Nat), s.linkIdle → a ≤ 255 → (∀ x ∈ bays, x ≤ 255) →
      (∀ p ∈ products, p ≤ 65535) → bays.length + 2 * products.length ≤ 245 →
      let body := b1 a ++ b1 bays.length ++ bays.flatMap b1 ++ b1 products.length ++ products.flatMap b2
      let reaches := (∃ x, bays = [x] ∧ x ≤ 7) ∨ ∃ x y, bays = [x, y] ∧ x ≤ 7 ∧ y ≤ 7 ∧ (x + 1 = y ∨ y + 1 = x)
      (23 < a ∨ ¬ reaches ∨ products = [] ∨ 4 < products.length ∨ ¬ products.Nodup ∨ (∃ p ∈ products, p = 0 ∨ 9999 < p) →
        exec (.armSet tag body) s = .next (s.answered 0x30 tag body ⟨.badValue, []⟩))
      ∧ (23 < a → exec (.armGet tag (b1 a)) s = .next (s.answered 0x31 tag (b1 a) ⟨.badValue, []⟩)
        ∧ exec (.armStop tag (b1 a)) s = .next (s.answered 0x33 tag (b1 a) ⟨.badValue, []⟩)
        ∧ exec (.armClear tag (b1 a)) s = .next (s.answered 0x34 tag (b1 a) ⟨.badValue, []⟩))) ∧
  ∀ (s : State) (tag : Byte) (a : ArmId) (b : BayId) (products : List Nat), s.linkIdle →
    1 ≤ products.length → products.length ≤ 4 → products.Nodup → (∀ p ∈ products, 1 ≤ p ∧ p ≤ 9999) →
    let one := b1 a.val ++ b1 1 ++ b1 b.val ++ b1 products.length ++ products.flatMap b2
    let two := b1 a.val ++ b1 2 ++ b1 b.val ++ b1 (b.val + 1) ++ b1 products.length ++ products.flatMap b2
    let bit := fun (p : Bool) (n : Nat) => if p then n else 0
    let bayByte := fun i => b1 ((((s.arm a).reach[i]?).map (·.val)).getD 0xFF)
    let periodBytes := fun p : Option PeriodRecord => match p with
      | none => List.replicate 29 0x00
      | some p => b1 1 ++ b2 p.nA ++ b2 p.nB ++ b4 p.iv ++ b2 p.q ++ b4 p.mf.toNat
        ++ (match p.temp with
            | some t => i2 t
            | none => [0x80, 0x00])
        ++ b4 p.vcf.toNat ++ b4 p.gv ++ b4 p.nv
    let segmentBytes := fun g : Segment =>
      b4 g.orderNo ++ b1 g.compartment ++ b1 g.bay.val ++ b1 g.origin.code ++ b1 g.phase.code ++ b1 (bit g.counted 1)
        ++ b4 g.presetMl ++ b4 g.reservation ++ b4 g.pulseTotalA ++ b4 g.pulseTotalB ++ b4 g.indicated ++ b4 g.gross
        ++ b4 g.net
        ++ b1 (if g.phase = .lowStart ∨ g.phase = .lowStop then 1 else if g.phase = .high then (if g.cap then 1 else 2) else 0)
        ++ b1 (bit g.cap 1)
        ++ b2 (bit g.mixedCal 1 + bit g.tempHeld 2 + bit g.uncompensated 4 + bit g.trimmed 8
          + g.undosed.toNat * 16 + g.doseFault.toNat * 128)
        ++ b1 ((g.endCause.map EndCause.code).getD 0xFF) ++ b4 g.fidelityCount ++ b2 g.holdAge ++ b1 g.zeroRun
        ++ b1 g.closeCounter ++ b4 g.postClose ++ periodBytes g.period
    ((s.arm a).status = .idle → (s.arm a).claim = none →
      exec (.armSet tag one) s = .next (State.answered 0x30 tag one ⟨.ok, []⟩
          (s.modArm a fun x => { x with reach := [b], products := products }))
      ∧ ∀ h : b.val + 1 < 8, exec (.armSet tag two) s = .next (State.answered 0x30 tag two ⟨.ok, []⟩
          (s.modArm a fun x => { x with reach := [b, ⟨b.val + 1, h⟩], products := products })))
    ∧ ((s.arm a).status ≠ .idle ∨ (s.arm a).claim ≠ none →
      exec (.armSet tag one) s = .next (s.answered 0x30 tag one ⟨.inUse, []⟩))
    ∧ exec (.armGet tag (b1 a.val)) s = .next (s.answered 0x31 tag (b1 a.val) ⟨.ok,
        b1 (s.arm a).reach.length ++ bayByte 0 ++ bayByte 1
          ++ b1 (s.arm a).products.length ++ b2 ((s.arm a).products.getD 0 0) ++ b2 ((s.arm a).products.getD 1 0)
          ++ b2 ((s.arm a).products.getD 2 0) ++ b2 ((s.arm a).products.getD 3 0)
          ++ b1 (s.arm a).status.code ++ b1 (((s.arm a).claim.map (·.val)).getD 0xFF)
          ++ (match (s.arm a).status with
              | .resumeWait no c => b4 no ++ b1 c
              | _ => List.replicate 5 0x00)
          ++ (match (s.arm a).lastEnd with
              | some e => b4 e.orderNo ++ b1 e.compartment ++ b1 e.origin.code ++ b1 e.cause.code ++ b1 (bit e.counted 1)
                  ++ b4 e.gross ++ b4 e.net
              | none => List.replicate 16 0x00)
          ++ (match s.seg? a with
              | some g => b1 1 ++ segmentBytes g
              | none => b1 0)⟩)
    ∧ ((s.arm a).status = .fault → ∃ t : State,
      exec (.armClear tag (b1 a.val)) s = .next (t.answered 0x34 tag (b1 a.val) ⟨.ok, []⟩)
        ∧ t.arm a = { s.arm a with status := .idle } ∧ (s.att.edges.arm ≠ .onset → t.att.armMarks[a] = true)
        ∧ OtherArms a s t ∧ SameExcept [.arms, .att] s t)
    ∧ ((s.arm a).status ≠ .fault →
      exec (.armClear tag (b1 a.val)) s = .next (s.answered 0x34 tag (b1 a.val) ⟨.wrongState, [0x00]⟩))

/-! ## Permissive inputs -/

/-- A permissive change: recorded and marked in every state (R43, R167); a loss of GROUND or VAPOUR at CARDED enters HOLD without a
window, at LOADING it pauses what flows under a window of 120 s (R44, R70); at HOLD it is recorded while permission is not back, and
the input that brings it back restores the bay (R45); an OVERFILL or ESTOP at CARDED, LOADING or HOLD trips it, with each segment
past acquisition closing under the input's cause (R47). At TRIPPED it is recorded while a segment remains or an input is unhealthy;
when the last input turns healthy without a segment the bay takes the CARDED entry: the close that is due, HOLD under a hold flag,
or CARDED (R47, R38). That a level repeated is no event is the model's choice (log 21); the second CARDED entry of a restoration
behind its last arm is log 10, the place of the LOADING prompt log 9. -/
def Obligations.PermissiveChange : Prop :=
  ∀ (s : State) (b : BayId) (i : Permissive) (v : Bool),
    let left := setLevel i v (s.bay b).inputs
    let recorded := (s.modBay b fun x => { x with inputs := left }).mark (.bay b)
    (inputLevel (s.bay b).inputs i = v → exec (.permissiveChange b i v) s = .next s)
    ∧ (inputLevel (s.bay b).inputs i = !v →
      (s.bay b).state = .closed ∨ (s.bay b).state = .idle ∨ (s.bay b).state = .authorizing ∨ (s.bay b).state = .ending →
      exec (.permissiveChange b i v) s = .next recorded)
    ∧ ((s.bay b).state = .carded → (s.bay b).permitted = true → i = .ground ∨ i = .vapour → v = false → ∃ t : State,
      exec (.permissiveChange b i v) s = .next t
        ∧ t.bay b = { s.bay b with
            state := .hold, inputs := left, cardIdleTimer := none, holdWindow := none, display := some (.hold 0) }
        ∧ t.att.bayMarks[b] = true ∧ t.outputs = s.outputs ++ [.prompt b (.hold 0)]
        ∧ OtherBays b s t ∧ SameExcept [.bays, .att, .outputs] s t)
    ∧ ((s.bay b).state = .loading → (s.bay b).permitted = true → i = .ground ∨ i = .vapour → v = false →
      s.acquiringArms b = [] → ∃ t : State, exec (.permissiveChange b i v) s = .next t
        ∧ t.bay b = { s.bay b with
            state := .hold, inputs := left, holdWindow := some 120000, display := some (.hold 120) }
        ∧ t.att.bayMarks[b] = true ∧ t.outputs = s.outputs ++ [.prompt b (.hold 120)]
        ∧ OtherBays b s t ∧ SameExcept [.bays, .arms, .att, .outputs] s t
        ∧ ∀ a, t.arm a = (s.arm a).modSeg fun g =>
            if g.bay = b ∧ (g.phase = .lowStart ∨ g.phase = .high ∨ g.phase = .lowStop) then
              { g with phase := .pausing, endCause := some .hold, closeRecorded := true, closeCounter := 0, zeroRun := 0 }
            else g)
    ∧ ((s.bay b).state = .hold → inputLevel (s.bay b).inputs i = !v → (i = .ground ∨ i = .vapour ∨ v = true) →
      allHealthy left = false ∨ (s.bay b).holdFlags ≠ 0 → exec (.permissiveChange b i v) s = .next recorded)
    ∧ (∀ no o, (s.bay b).state = .hold → inputLevel (s.bay b).inputs i = !v → allHealthy left = true →
      (s.bay b).holdFlags = 0 → (s.bay b).boundOrder = some no → s.order? no = some o →
      Restores b no o recorded fun t => exec (.permissiveChange b i v) s = .next t ∧ t.att.bayMarks[b] = true)
    ∧ (∀ cause, (i = .overfill ∧ cause = EndCause.overfill ∨ i = .estop ∧ cause = .estop) → v = false →
      inputLevel (s.bay b).inputs i = true →
      ((s.bay b).state = .carded ∨ (s.bay b).state = .loading ∨ (s.bay b).state = .hold) → s.acquiringArms b = [] →
      ∃ t : State, exec (.permissiveChange b i v) s = .next t
        ∧ t.bay b = { s.bay b with
            state := .tripped, inputs := left, holdWindow := none, cardIdleTimer := none, display := some .tripped }
        ∧ t.att.bayMarks[b] = true
        ∧ t.outputs = s.outputs ++ [.prompt b .tripped] ∧ OtherBays b s t ∧ SameExcept [.bays, .arms, .att, .outputs] s t
        ∧ ∀ a, t.arm a = armShut b cause (s.arm a))
    ∧ ((s.bay b).state = .tripped → inputLevel (s.bay b).inputs i = !v →
      (allHealthy left = false ∨ (∃ a g, s.seg? a = some g ∧ g.bay = b) → exec (.permissiveChange b i v) s = .next recorded)
      ∧ (∀ no o, allHealthy left = true → (∀ a g, s.seg? a = some g → g.bay ≠ b) → (s.bay b).boundOrder = some no →
        s.order? no = some o →
        let select : Prompt := .select (o.lines.filter fun l => l.state == .opened || l.state == .part).length
        ((∀ l ∈ o.lines, l.state = .filled ∨ l.state = .spent) →
          ∃ t : State, exec (.permissiveChange b i v) s = .next t ∧ VisitClosed b o recorded t)
        ∧ ((∃ l ∈ o.lines, l.state = .opened ∨ l.state = .part) → ∃ t : State, exec (.permissiveChange b i v) s = .next t
          ∧ ((s.bay b).holdFlags = 0 →
            t.bay b = { s.bay b with
              state := .carded, inputs := left, cardIdleTimer := some 600000, display := some select }
            ∧ t.outputs = s.outputs ++ [.prompt b select])
          ∧ ((s.bay b).holdFlags ≠ 0 →
            t.bay b = { s.bay b with state := .hold, inputs := left, holdWindow := none, display := some (.hold 0) }
            ∧ t.outputs = s.outputs ++ [.prompt b (.hold 0)])
          ∧ t.att.bayMarks[b] = true ∧ OtherBays b s t ∧ SameExcept [.bays, .att, .outputs] s t)))

/-! ## Metering -/

/-- Pulses are counted up to 2,500 while the arm meters and discarded otherwise; a sample replaces the latest and starts the
freshness timer, a bad one changes nothing; freshness runs out with the value kept (R81, R82). -/
def Obligations.PulsesAndSamples : Prop :=
  ∀ (s : State) (a : ArmId) (v : BitVec 16) (ch : Channel),
    (∀ g, s.seg? a = some g → g.periodTimer ≠ none →
      exec (.meterPulse a .a) s = .next (s.modArm a fun x => { x with counterA := min 2500 (x.counterA + 1) })
      ∧ exec (.meterPulse a .b) s = .next (s.modArm a fun x => { x with counterB := min 2500 (x.counterB + 1) }))
    ∧ (s.seg? a = none ∨ (∃ g, s.seg? a = some g ∧ g.periodTimer = none) →
      exec (.meterPulse a ch) s = .next s)
    ∧ exec (.sampleFrame a v true) s =
      .next (s.modArm a fun x => { x with sample := some v.toInt, freshness := some 2000 })
    ∧ exec (.sampleFrame a v false) s = .next s
    ∧ exec (.freshnessTimerExpiry a) s = .next (s.modArm a fun x => { x with freshness := none })

/-- Over any run of periods a volume stage loses nothing but its last residue, which is below its divisor (R85, R88, R91, R97). -/
def Obligations.StagesLoseLessThanOneUnit : Prop :=
  ∀ (divisor : Nat) (inputs : List Nat), 0 < divisor →
    let run := inputs.foldl (fun (acc : Nat × Nat) n =>
      (acc.1 + (volumeStage (n + acc.2) divisor).1, (volumeStage (n + acc.2) divisor).2)) (0, 0)
    run.1 * divisor + run.2 = inputs.sum ∧ run.2 < divisor

/-- The meter factor of an ascending curve: at and below its first point and at and above its last it is that point's own; between
two adjacent points it is interpolated, with the quotient truncated toward zero (R87); so it lies within the curve's factors.
The volume correction factor is 1,000,000 less the nearest integer to α ΔT / 100, halves away from zero, clamped (R90). -/
def Obligations.MeterAndCorrectionFactors : Prop :=
  (∀ (curve : List CurvePoint) (q lo hi : Nat), curve ≠ [] → curve.Pairwise (fun p r => p.q < r.q) →
      (∀ p ∈ curve, lo ≤ p.mf ∧ p.mf ≤ hi) →
      (lo : Int) ≤ meterFactor curve q ∧ meterFactor curve q ≤ hi ∧ (∀ p ∈ curve, p.q = q → meterFactor curve q = p.mf)
      ∧ (∀ p, curve.head? = some p → q ≤ p.q → meterFactor curve q = p.mf)
      ∧ (∀ p, curve.getLast? = some p → p.q ≤ q → meterFactor curve q = p.mf)
      ∧ ∀ before p r after, curve = before ++ p :: r :: after → p.q ≤ q → q < r.q →
        meterFactor curve q = p.mf + Int.tdiv (((r.mf : Int) - p.mf) * (q - p.q)) (r.q - p.q)) ∧
  (∀ (alpha : Nat) (t tref c : Int),
      (2 * (100 * c - alpha * (t - tref)).natAbs < 100
        ∨ (2 * (100 * c - alpha * (t - tref)).natAbs = 100 ∧ (alpha * (t - tref)).natAbs ≤ (100 * c).natAbs)) →
      correction alpha t tref =
        if 1000000 - c < 850000 then 850000 else if 1150000 < 1000000 - c then 1150000 else 1000000 - c)

/-- A metering period's computation and accumulation at a segment that goes on, in any phase in which its period timer runs
(R66 step 1, R84..R94, R98), and its pacing: every claim is handed the volume but in PAUSING, each claimed injector settles, and
the cap is evaluated (R95, R134, R140). That the post-close volume, Σ GV_T and a claim's paced volume stay at the top of 32 bits
is the model's reading (log 15). -/
def Obligations.PeriodComputation : Prop :=
  ∀ (s : State) (a : ArmId) (g : Segment) (l : Line) (e : Entry), s.seg? a = some g → g.periodTimer ≠ none →
    let flowing := g.phase = .lowStart ∨ g.phase = .high ∨ g.phase = .lowStop
    let x := s.arm a
    (flowing ∨ ((g.phase = .closing ∨ g.phase = .pausing)
      ∧ (x.counterA ≠ 0 ∨ x.counterB ≠ 0 ∨ g.zeroRun = 0) ∧ g.closeCounter < 19)) →
    s.segLine? g = some l → s.segEntry? g = some e →
    let iv := (x.counterA * 1000000 + g.residueI) / e.kn
    let q := min 9999 ((iv * 24 + 50) / 100)
    let mf := meterFactor e.curve q
    let gv := (iv * mf.toNat + g.residueG) / 100000
    let valid : Option Int := if x.freshness ≠ none then x.sample.filter fun v => -5000 ≤ v ∧ v ≤ 8000 else none
    let temp := if valid = none then g.lastTemp else valid
    let vcf := match temp with
      | some t => correction e.alpha t s.settings.tref
      | none => 1000000
    let nv := (gv * vcf.toNat + g.residueN) / 1000000
    let top := 4294967295
    ∃ (t : State) (g' : Segment), exec (.meteringPeriodExpiry a) s = .next t
      ∧ t.arm a = { x with status := .segment g', counterA := 0, counterB := 0 }
      ∧ g' = { g with
          phase := g'.phase, endCause := g'.endCause, closeRecorded := g'.closeRecorded, closeCounter := g'.closeCounter
          zeroRun := g'.zeroRun, claims := g'.claims, cap := g'.cap
          periodTimer := some 250
          period := some ⟨x.counterA, x.counterB, iv, q, mf, temp, vcf, gv, nv⟩
          indicated := min top (g.indicated + iv), gross := min top (g.gross + gv), net := min top (g.net + nv)
          pulseTotalA := min top (g.pulseTotalA + x.counterA), pulseTotalB := min top (g.pulseTotalB + x.counterB)
          residueI := (x.counterA * 1000000 + g.residueI) % e.kn, residueG := (iv * mf.toNat + g.residueG) % 100000
          residueN := (gv * vcf.toNat + g.residueN) % 1000000
          lastTemp := temp
          sumTGV := g.sumTGV + temp.getD 0 * gv
          sumGVT := if temp = none then g.sumGVT else min top (g.sumGVT + gv)
          holdAge := if valid ≠ none then 0 else if g.lastTemp ≠ none then g.holdAge + 1 else g.holdAge
          tempHeld := g.tempHeld || decide (valid = none ∧ g.lastTemp ≠ none)
          uncompensated := g.uncompensated || decide (temp = none)
          fidelityCount := if x.counterA ≤ x.counterB + 1 ∧ x.counterB ≤ x.counterA + 1 then g.fidelityCount
            else g.fidelityCount + (x.counterA - x.counterB) + (x.counterB - x.counterA)
          postClose := if g.closeRecorded then min top (g.postClose + (if l.basis = .gross then gv else nv))
            else g.postClose }
      ∧ (¬ flowing → g'.phase = g.phase ∧ g'.endCause = g.endCause ∧ g'.closeRecorded = g.closeRecorded
        ∧ g'.closeCounter = g.closeCounter + 1
        ∧ g'.zeroRun = if x.counterA = 0 ∧ x.counterB = 0 then g.zeroRun + 1 else 0)
      ∧ (g.phase = .pausing ∨ g.claims = [] → g'.claims = g.claims ∧ g'.cap = g.cap ∧ t.dosing = s.dosing
        ∧ t.outputs = s.outputs)
      ∧ (g.phase ≠ .pausing → g.claims ≠ [] → (g.claims.map (·.index)).Nodup → (g.claims.map (·.injector)).Nodup →
        g'.claims = g.claims.map (fun k => { k with pacedMl := min top (k.pacedMl + gv) }) ∧ g'.cap = capUnder t g
        ∧ (∀ k ∈ g.claims, t.injector k.injector =
            if (s.injector k.injector).state = .claimed then
              Injector.settle { s.injector k.injector with
                accNl := (s.injector k.injector).accNl + gv * k.component.dose }
            else s.injector k.injector)
        ∧ (∀ j, j ∉ g.claims.map (·.injector) → t.injector j = s.injector j)
        ∧ t.outputs = s.outputs ++ (g.claims.filter fun k =>
            !(s.injector k.injector).firing && (t.injector k.injector).firing).map (fun k => .stroke k.injector))
      ∧ t.dosing.recipes = s.dosing.recipes ∧ t.dosing.queues = s.dosing.queues
      ∧ OtherArms a s t ∧ SameExcept [.arms, .dosing, .outputs] s t

/-- The fault tests and the phase tests of a flowing segment, on the totals the period leaves (R67, R68), and the rows of the
table that name a fault: each is the period expiry that brings that cause about (log 4). -/
def Obligations.FlowingTests : Prop :=
  ∀ (s : State) (a : ArmId) (g : Segment) (l : Line) (e : Entry),
    s.seg? a = some g → g.periodTimer ≠ none → (g.phase = .lowStart ∨ g.phase = .high ∨ g.phase = .lowStop) →
    g.endCause = none → s.segLine? g = some l → s.segEntry? g = some e →
    let x := s.arm a
    let iv := (x.counterA * 1000000 + g.residueI) / e.kn
    let gv := (iv * (meterFactor e.curve (min 9999 ((iv * 24 + 50) / 100))).toNat + g.residueG) / 100000
    let gross := min 4294967295 (g.gross + gv)
    let fidelity := if x.counterA ≤ x.counterB + 1 ∧ x.counterB ≤ x.counterA + 1 then g.fidelityCount
      else g.fidelityCount + (x.counterA - x.counterB) + (x.counterB - x.counterA)
    let fresh := x.freshness ≠ none ∧ ∃ v, x.sample = some v ∧ -5000 ≤ v ∧ v ≤ 8000
    let run := if x.counterA = 0 ∧ x.counterB = 0 then g.zeroRun + 1 else 0
    let meterFails := s.settings.fidelityLimit < fidelity ∨ g.presetMl + 1000000 < gross
    let cold := ¬ fresh ∧ (g.lastTemp = none ∧ 121 ≤ g.holdAge ∨ g.lastTemp ≠ none ∧ 120 ≤ g.holdAge)
    let sound := ¬ meterFails ∧ ¬ cold ∧ run < 40
    ∃ (t : State) (g' : Segment), exec (.meteringPeriodExpiry a) s = .next t ∧ t.seg? a = some g' ∧ g'.gross = gross
      ∧ (let remaining := g.presetMl - g'.delivered l.basis
         let closes := fun cause => g'.phase = .closing ∧ g'.endCause = some cause ∧ g'.closeRecorded = true
           ∧ g'.closeCounter = 0 ∧ g'.zeroRun = 0
         (meterFails → closes .meterFault ∧ exec (.meterFault a) s = .next t)
         ∧ (¬ meterFails → cold → closes .tempFault ∧ exec (.tempFault a) s = .next t)
         ∧ (¬ meterFails → ¬ cold → 40 ≤ run → closes .noFlow ∧ exec (.noFlow a) s = .next t)
         ∧ (sound → remaining ≤ e.closeAdvance → closes .closed)
         ∧ (sound → e.closeAdvance < remaining → remaining ≤ e.slowStop → g'.phase = .lowStop ∧ g'.endCause = none)
         ∧ (sound → e.closeAdvance < remaining → e.slowStop < remaining → g.phase = .lowStart → e.lowStart ≤ gross →
           g'.phase = .high ∧ g'.endCause = none)
         ∧ (sound → e.closeAdvance < remaining → e.slowStop < remaining → (g.phase ≠ .lowStart ∨ gross < e.lowStart) →
           g'.phase = g.phase ∧ g'.endCause = none ∧ g'.zeroRun = run))

/-- Flow end and leak: a segment in CLOSING or PAUSING ends with its decided cause at its second zero-pulse period, and with LEAK at
the twentieth; the arm's record after it (R71, R74 step 7, R53). A PAUSING segment's flow end at a HOLD bay leaves its arm waiting with
its claim while the window runs, and released when it is stopped (R74, R76). As the last segment of its bay a CLOSING segment's end
closes the order at ENDING, and elsewhere when its close is due; it brings the CARDED entry at LOADING, and at TRIPPED with all four
inputs healthy, HOLD under a hold flag; its claims are released (R28, R38, R41, R47, R141). The rows FLOW_END and LEAK are the model's:
each is the period expiry that brings that end about (log 4). -/
def Obligations.FlowEndAndLeak : Prop :=
  ∀ (s : State) (a : ArmId) (g : Segment) (l : Line) (e : Entry) (cause : EndCause), s.seg? a = some g →
    g.periodTimer ≠ none → (g.phase = .closing ∧ cause ≠ .hold ∨ g.phase = .pausing ∧ cause = .hold) → cause ≠ .leak →
    g.endCause = some cause → g.claims.length ≤ 3 → NoWaiterFor a g s → s.segLine? g = some l → s.segEntry? g = some e →
    let b := g.bay
    let quiet := (s.arm a).counterA = 0 ∧ (s.arm a).counterB = 0
    let stopped : Output := .prompt b (.stopped a cause)
    let ends := fun (t : State) (c : EndCause) (st : ArmStatus) (cl : Option BayId) =>
      (t.arm a).claim = cl ∧ (t.arm a).status = st ∧ t.seg? a = none
      ∧ (∃ le, (t.arm a).lastEnd = some le ∧ le.orderNo = g.orderNo ∧ le.compartment = g.compartment ∧ le.origin = g.origin
          ∧ le.cause = c ∧ le.counted = g.counted)
      ∧ (t.att.occurrences[a]).ended = true ∧ (cl = none → (t.att.occurrences[a]).released = true)
      ∧ t.att.armMarks[a] = true
      ∧ SameExcept [.permits, .orders, .bays, .arms, .cache, .dosing, .notes, .att, .outputs] s t
    let freed := fun t : State => ∀ j, t.injector j =
      if g.claims.any (fun k => k.injector == j) then claimReleased (s.injector j) else s.injector j
    (quiet → 1 ≤ g.zeroRun → g.phase = .closing → ∃ t : State,
      exec (.meteringPeriodExpiry a) s = .next t ∧ exec (.flowEnd a) s = .next t ∧ ends t cause .idle none)
    ∧ (quiet → 1 ≤ g.zeroRun → g.phase = .pausing → (s.bay b).state = .hold → (s.bay b).boundOrder = some g.orderNo →
      l.segmentsUsed ≠ 4 → ∃ t : State, exec (.meteringPeriodExpiry a) s = .next t ∧ exec (.flowEnd a) s = .next t
        ∧ ((s.bay b).holdWindow ≠ none → ends t .hold (.resumeWait g.orderNo g.compartment) (s.arm a).claim)
        ∧ ((s.bay b).holdWindow = none → ends t .hold .idle none)
        ∧ t.line? g.orderNo g.compartment = some { l with
            state := if g.counted = false ∧ l.segmentsUsed = 0 then .opened else .part }
        ∧ t.bay b = { s.bay b with display := some (.stopped a .hold) } ∧ t.outputs = s.outputs ++ [stopped]
        ∧ freed t ∧ OtherArms a s t ∧ OtherBays b s t)
    ∧ ((¬ quiet ∨ g.zeroRun = 0) → 19 ≤ g.closeCounter → ∃ t : State,
      exec (.meteringPeriodExpiry a) s = .next t ∧ exec (.leak a) s = .next t ∧ ends t .leak .fault none)
    ∧ ((¬ quiet ∨ g.zeroRun = 0) → g.closeCounter < 19 → ∃ (t : State) (g' : Segment), exec (.meteringPeriodExpiry a) s = .next t
      ∧ t.seg? a = some g' ∧ g'.phase = g.phase ∧ g'.endCause = some cause ∧ g'.closeCounter = g.closeCounter + 1
      ∧ exec (.flowEnd a) s = .next s ∧ exec (.leak a) s = .next s ∧ OtherArms a s t
      ∧ (g.phase = .pausing ∨ g.claims = [] → SameExcept [.arms] s t) ∧ SameExcept [.arms, .dosing, .outputs] s t)
    ∧ (∀ o, quiet → 1 ≤ g.zeroRun → g.phase = .closing → (s.bay b).boundOrder = some g.orderNo → s.order? g.orderNo = some o →
      ¬ OtherSegment a b s →
      (g.claims = [] ∨ g.residueI < e.kn ∧ g.residueG < 100000 ∧ ∀ k ∈ g.claims,
        (s.injector k.injector).state = .claimed → (s.injector k.injector).settle = s.injector k.injector) →
      let others := fun st : LineState → Prop => ∀ x ∈ o.lines, x.compartment ≠ g.compartment → st x.state
      let due := g.counted = true ∧ (cause = .closed ∧ g.trimmed = false ∨ cause = .overfill)
        ∧ others fun st => st = .filled ∨ st = .spent
      let left := ∃ x ∈ o.lines, x.compartment ≠ g.compartment ∧ (x.state = .opened ∨ x.state = .part)
      ((s.bay b).state = .ending ∨ (((s.bay b).state = .loading ∨ (s.bay b).state = .hold ∨ (s.bay b).state = .tripped) ∧ due) →
        ∃ u t q, exec (.flowEnd a) s = .next t ∧ ends u cause .idle none
        ∧ u.outputs = s.outputs ++ [stopped] ∧ u.bay b = { s.bay b with display := some (.stopped a cause) }
        ∧ freed u ∧ OtherArms a s u ∧ OtherBays b s u ∧ OtherOrders g.orderNo s u
        ∧ u.order? g.orderNo = some q ∧ q.lines.map (·.compartment) = o.lines.map (·.compartment)
        ∧ q.card = o.card ∧ q.noteSlot = o.noteSlot ∧ VisitClosed b q u t)
      ∧ ((s.bay b).state = .tripped ∨ ((s.bay b).state = .loading ∧ (s.bay b).permitted = true) → left →
        ∃ t q, exec (.flowEnd a) s = .next t ∧ ends t cause .idle none ∧ t.order? g.orderNo = some q
        ∧ freed t ∧ OtherArms a s t ∧ OtherBays b s t
        ∧ (let select : Prompt := .select (q.lines.filter fun x => x.state == .opened || x.state == .part).length
          (allHealthy (s.bay b).inputs = false →
            t.bay b = { s.bay b with display := some (.stopped a cause) } ∧ t.outputs = s.outputs ++ [stopped])
          ∧ (allHealthy (s.bay b).inputs = true → (s.bay b).holdFlags = 0 →
            t.bay b = { s.bay b with state := .carded, cardIdleTimer := some 600000, display := some select }
            ∧ t.outputs = s.outputs ++ [stopped, .prompt b select])
          ∧ (allHealthy (s.bay b).inputs = true → (s.bay b).holdFlags ≠ 0 →
            t.bay b = { s.bay b with state := .hold, holdWindow := none, display := some (.hold 0) }
            ∧ t.outputs = s.outputs ++ [stopped, .prompt b (.hold 0)]))))

/-- What a counted end settles while another segment of the bay goes on, from a quiet period: a flow end with its decided cause,
trimmed or not, or LEAK; the learned advance of a CLOSED end, the line, the permit with the strike of an OVERFILL end, the pin,
the wants and queues, the claims, and the line of the OPEN note, to which the segment's totals, sums, serial, flags and additive
entries are written back (R72, R27, R16, R18, R108, R41, R73, R75, R143, R144, R153); all else is as before. That the sums of a
note line stay at the top of 32 bits is the model's reading (log 15). FLOW_END and LEAK are the period expiry that brings the end
about (log 4). -/
def Obligations.ClosedEndSettles : Prop :=
  ∀ (s : State) (a other : ArmId) (g h : Segment) (o : Order) (l : Line) (e : EntryId) (x : Entry) (p : Permit) (cause : EndCause),
    Quiet a g o l e x p s → other ≠ a → s.seg? other = some h → h.bay = g.bay → (s.bay g.bay).state = .loading →
    g.phase = .closing → g.endCause = some cause → cause ≠ .hold → cause ≠ .leak →
    let settled := fun (c : EndCause) (st : ArmStatus) (t : State) =>
      CountedEnd a g o e x p c st s t ∧ WrittenBack a g o l x c s t
      ∧ t.bay g.bay = { s.bay g.bay with display := some (.stopped a c) }
      ∧ t.outputs = s.outputs ++ [.prompt g.bay (.stopped a c)] ∧ OtherArms a s t ∧ OtherBays g.bay s t
      ∧ SameExcept [.permits, .orders, .bays, .arms, .cache, .dosing, .notes, .att, .outputs] s t
    (1 ≤ g.zeroRun → ∃ t : State, exec (.flowEnd a) s = .next t ∧ exec (.meteringPeriodExpiry a) s = .next t
      ∧ settled cause .idle t)
    ∧ (g.zeroRun = 0 → 19 ≤ g.closeCounter → ∃ t : State, exec (.leak a) s = .next t
      ∧ exec (.meteringPeriodExpiry a) s = .next t ∧ settled .leak .fault t)

/-- The ends of a segment in acquisition, uncounted, at a LOADING bay (R61, R63, R65, R74): the want timer, the injector wait
timer with its pin and its granted claims released, ARM STOP and STOP, CAL, and, for the one segment of the bay in acquisition,
a loss of permission, which keeps its arm waiting, and a trip. The line returns to OPEN or PART, the reservation is released,
nothing is charged; a bay without a segment takes the CARDED entry. That the expiry of a stopped timer does nothing is the
model's choice (log 3). -/
def Obligations.WaitTimersExpire : Prop :=
  ∀ (s : State) (a : ArmId) (g : Segment) (o : Order) (l : Line) (p : Permit) (tag : Byte), Uncounted a g o l p s →
    (s.bay g.bay).state = .loading →
    let b := g.bay
    let acquiring := g.phase = .awaitProfile ∨ g.phase = .awaitInjector
    let past := fun h : Segment => h.phase ≠ .awaitProfile ∧ h.phase ≠ .awaitInjector
    let alone := acquiring ∧ ∀ c h, c ≠ a → s.seg? c = some h → h.bay = b → past h
    let flowing := fun h : Segment => h.phase = .lowStart ∨ h.phase = .high ∨ h.phase = .lowStop
    let parts : List Part := [.permits, .orders, .bays, .arms, .cache, .dosing, .att, .outputs]
    (g.wantTimer ≠ none → ∃ t : State, exec (.wantTimerExpiry a) s = .next t ∧ EndsUncounted a g .profileTimeout s t)
    ∧ (g.injectorTimer ≠ none → ∃ t : State, exec (.injectorWaitTimerExpiry a) s = .next t
        ∧ EndsUncounted a g .injectorTimeout s t)
    ∧ (g.wantTimer = none → exec (.wantTimerExpiry a) s = .next s)
    ∧ (g.injectorTimer = none → exec (.injectorWaitTimerExpiry a) s = .next s)
    ∧ (acquiring → (∃ t : State, exec (.stop b a.val) s = .next t ∧ EndsUncounted a g .stopped s t)
      ∧ (s.linkIdle → ∃ t : State, exec (.armStop tag (b1 a.val)) s = .next (t.answered 0x33 tag (b1 a.val) ⟨.ok, []⟩)
        ∧ EndsUncounted a g .stopped s t))
    ∧ (acquiring → s.settings.cal = false → (∀ c h, c ≠ a → s.seg? c = some h → past h) → ∃ t : State,
      exec .calAssertion s = .next t ∧ UncountedEnd a g o p .calSeal .idle none s t ∧ BayAfterEnd a g o .calSeal s t
        ∧ t.settings = { s.settings with cal := true }
        ∧ (∀ c, c ≠ a → t.arm c = (s.arm c).modSeg fun h => if flowing h then { h with
            phase := .closing, endCause := some .calSeal, closeRecorded := true, closeCounter := 0, zeroRun := 0 } else h)
        ∧ OtherBays b s t ∧ SameExcept (.settings :: parts) s t)
    ∧ (alone → (s.bay b).permitted = true →
      let held := fun (x : Bay) (t : State) =>
        UncountedEnd a g o p .hold (.resumeWait g.orderNo g.compartment) (s.arm a).claim s t
        ∧ t.bay b = { x with state := .hold, holdWindow := some 120000, display := some (.stopped a .hold) }
        ∧ t.outputs = s.outputs ++ [.prompt b (.hold 120), .prompt b (.stopped a .hold)]
        ∧ (∀ c, c ≠ a → t.arm c = (s.arm c).modSeg fun h => if h.bay = b ∧ flowing h then { h with
            phase := .pausing, endCause := some .hold, closeRecorded := true, closeCounter := 0, zeroRun := 0 } else h)
        ∧ OtherBays b s t ∧ SameExcept parts s t
      (∀ mask : Byte, s.linkIdle → mask ≠ 0 → ∃ t : State,
        exec (.holdSet tag (b1 b.val ++ [mask])) s = .next (t.answered 0x2B tag (b1 b.val ++ [mask]) ⟨.ok, []⟩)
          ∧ held { s.bay b with holdFlags := mask } t)
      ∧ ∀ i, i = .ground ∨ i = .vapour → ∃ t : State, exec (.permissiveChange b i false) s = .next t
          ∧ held { s.bay b with inputs := setLevel i false (s.bay b).inputs } t)
    ∧ (∀ i cause, alone → (i = .overfill ∧ cause = EndCause.overfill ∨ i = .estop ∧ cause = .estop) →
      inputLevel (s.bay b).inputs i = true → ∃ t : State, exec (.permissiveChange b i false) s = .next t
        ∧ UncountedEnd a g o p cause .idle none s t
        ∧ t.bay b = { s.bay b with
            state := .tripped, inputs := setLevel i false (s.bay b).inputs, holdWindow := none, cardIdleTimer := none
            display := some (.stopped a cause) }
        ∧ t.outputs = s.outputs ++ [.prompt b .tripped, .prompt b (.stopped a cause)]
        ∧ (∀ c, c ≠ a → t.arm c = armShut b cause (s.arm c)) ∧ OtherBays b s t ∧ SameExcept parts s t)

/-! ## The dosing unit -/

/-- The settle ends with neither of its steps applying, owes what it owed, and keeps every nanolitre: those of a stroke newly
commanded, of the shot queued and of the accumulator (R135, R140). -/
def Obligations.SettleEnds : Prop :=
  ∀ x : Injector, 0 < x.shotUl →
    let y := x.settle
    y.settle = y ∧ (y.queued = false → y.accNl < y.shotUl * 1000) ∧ (y.firing = false → y.queued = false)
      ∧ (x.state = .claimed → y.owed = x.owed)
      ∧ y.accNl + (y.firing.toNat + y.queued.toNat) * (x.shotUl * 1000)
        = x.accNl + (x.firing.toNat + x.queued.toNat) * (x.shotUl * 1000)

/-- A confirm edge: the stroke counted in CLAIMED with the cap of its segment evaluated, the release resolved in RELEASING with no
waiter in reach, a stray otherwise, ignored in FAULT and OUT_OF_SERVICE; the fifth stray is the fault, of a free injector alone
and of a CLAIMED one at its segment too (R136, R138, R139, R140, R142, R63). The row INJECTOR_FAULT by a stray is the confirm edge
that brings the fault about (log 4). -/
def Obligations.ConfirmEdge : Prop :=
  ∀ (s : State) (j : InjId),
    let x := s.injector j
    let held := fun t : State => ∀ a, t.arm a =
      if x.claimant.map (·.arm) = some a then (s.arm a).modSeg fun g => { g with cap := capUnder t g } else s.arm a
    (x.state = .fault ∨ x.state = .outOfService → exec (.confirmEdge j) s = .next s)
    ∧ (x.state = .claimed → x.firing = true → x.queued = false → x.accNl < x.shotUl * 1000 → ∃ t : State,
      exec (.confirmEdge j) s = .next t
        ∧ t.injector j = { x with confirmed := x.confirmed + 1, misses := 0, confirmTimer := none, firing := false }
        ∧ OtherInjectors j s t ∧ SameExcept [.arms, .dosing] s t ∧ held t)
    ∧ (x.state = .claimed → x.firing = true → x.queued = true → x.accNl < x.shotUl * 1000 → ∃ t : State,
      exec (.confirmEdge j) s = .next t
        ∧ t.injector j = { x with confirmed := x.confirmed + 1, misses := 0, confirmTimer := some 2000, queued := false }
        ∧ t.outputs = s.outputs ++ [.stroke j] ∧ OtherInjectors j s t ∧ SameExcept [.arms, .dosing, .outputs] s t ∧ held t)
    ∧ (x.state = .releasing → (∀ w ∈ s.dosing.queue x.cls, w.arm ∉ x.reach) → exec (.confirmEdge j) s =
      .next (s.modInjector j fun y => { y with state := .idle, confirmTimer := none, firing := false, misses := 0 }))
    ∧ (x.state = .idle ∨ x.state = .claimed ∧ x.firing = false → x.strays < 4 → exec (.confirmEdge j) s =
      .next (s.modInjector j fun y => { y with strays := y.strays + 1 }))
    ∧ (x.state = .idle → x.strays = 4 → ∃ t : State, exec (.confirmEdge j) s = .next t ∧ exec (.injectorFault j .stray) s = .next t
      ∧ t.injector j = { x with
          state := .fault, strays := 5, queued := false, accNl := 0, confirmTimer := none, firing := false }
      ∧ t.dosing.recipes = s.dosing.recipes ∧ t.dosing.queues = s.dosing.queues
      ∧ OtherInjectors j s t ∧ SameExcept [.dosing, .att] s t
      ∧ (s.att.edges.injector ≠ .clearance → t.att.injectorMarks[j] = true))
    ∧ ∀ c g k, x.state = .claimed → x.firing = false → x.strays = 4 → x.claimant = some c → s.seg? c.arm = some g →
      g.claims.find? (·.index == c.index) = some k → ∃ t : State,
      exec (.confirmEdge j) s = .next t ∧ exec (.injectorFault j .stray) s = .next t
        ∧ ClaimFaults j c g k { x with strays := 5 } s t

/-- The confirm timer's expiry: a miss in CLAIMED with the cap of its segment evaluated, the third consecutive miss the fault,
which marks the claim, evaluates the cap, closes a mandatory component's flowing segment and ends one in AWAIT_INJECTOR uncounted;
a RELEASING injector becomes IDLE, with no waiter in reach, or FAULT (R137, R139, R140, R142, R63). The row INJECTOR_FAULT by a
miss is the expiry that brings the fault about (log 4); that the expiry of a stopped timer does nothing is the model's choice (log
3). -/
def Obligations.ConfirmTimerExpiry : Prop :=
  ∀ (s : State) (j : InjId),
    let x := s.injector j
    (x.confirmTimer = none → exec (.confirmTimerExpiry j) s = .next s)
    ∧ (x.state = .claimed → x.confirmTimer ≠ none → x.misses < 2 → x.queued = false → x.accNl < x.shotUl * 1000 → ∃ t : State,
      exec (.confirmTimerExpiry j) s = .next t
        ∧ t.injector j = { x with firing := false, confirmTimer := none, misses := x.misses + 1 }
        ∧ OtherInjectors j s t ∧ SameExcept [.arms, .dosing] s t
        ∧ ∀ a, t.arm a =
          if x.claimant.map (·.arm) = some a then (s.arm a).modSeg fun g => { g with cap := capUnder t g } else s.arm a)
    ∧ (∀ c g k, x.state = .claimed → x.confirmTimer ≠ none → x.misses = 2 → x.claimant = some c → s.seg? c.arm = some g →
      g.claims.find? (·.index == c.index) = some k → ∃ t : State,
      exec (.confirmTimerExpiry j) s = .next t ∧ exec (.injectorFault j .miss) s = .next t
        ∧ ClaimFaults j c g k { x with misses := 3 } s t)
    ∧ (x.state = .releasing → x.confirmTimer ≠ none → x.misses = 2 → ∃ t : State, exec (.confirmTimerExpiry j) s = .next t
      ∧ exec (.injectorFault j .miss) s = .next t
      ∧ t.injector j = { x with state := .fault, misses := 3, firing := false, confirmTimer := none }
      ∧ OtherInjectors j s t ∧ SameExcept [.dosing, .att] s t)
    ∧ (x.state = .releasing → x.confirmTimer ≠ none → x.misses < 2 → (∀ w ∈ s.dosing.queue x.cls, w.arm ∉ x.reach) →
      exec (.confirmTimerExpiry j) s = .next (s.modInjector j fun y => { y with
        state := .idle, misses := x.misses + 1, firing := false, confirmTimer := none }))

/-- The grant of an injector that has become IDLE goes to the oldest waiter of its class within its reach; the other waiters
keep their order (R131, R133).
In the event of the command that frees the injector, a confirm edge or a confirm expiry in RELEASING, INJECTOR CLEAR, or INJECTOR SET
into service, the waiter's claim starts and, with the last mandatory component granted, its segment goes on (R63, R126, R128, R142).
That INJECTOR SET keeps the reach in the order sent is the model's choice (log 20). -/
def Obligations.GrantServesOldestInReach : Prop :=
  (∀ (s : State) (j : InjId) (before after : List Waiter) (w : Waiter) (g : Segment) (l : Line) (cs : List Component)
      (c : Component), (s.injector j).state = .idle → 1 ≤ (s.injector j).cls → (s.injector j).cls ≤ 15 →
      s.dosing.queue (s.injector j).cls = before ++ w :: after → (∀ v ∈ before, v.arm ∉ (s.injector j).reach) →
      (∀ v ∈ after, v.arm ≠ w.arm) → w.arm ∈ (s.injector j).reach → s.seg? w.arm = some g → s.segLine? g = some l →
      l.snapshot = some cs → cs[w.index - 1]? = some c →
      ((s.grant j).1.injector j).state = .claimed ∧ ((s.grant j).1.injector j).claimant = some ⟨w.arm, w.index⟩
        ∧ ((s.grant j).1.injector j).accNl = 0 ∧ ((s.grant j).1.injector j).confirmed = 0
        ∧ (s.grant j).1.dosing.queue (s.injector j).cls = before ++ after
        ∧ OtherInjectors j s (s.grant j).1 ∧ OtherArms w.arm s (s.grant j).1 ∧ SameExcept [.arms, .dosing] s (s.grant j).1) ∧
  ∀ (s : State) (j : InjId) (y : Injector) (before after : List Waiter) (w : Waiter) (g : Segment) (o : Order) (l : Line)
    (p : Permit) (k : SlotId) (cs : List Component) (c : Component), 1 ≤ y.cls → y.cls ≤ 15 →
    s.dosing.queue y.cls = before ++ w :: after → (∀ v ∈ before, v.arm ∉ y.reach) → (∀ v ∈ after, v.arm ≠ w.arm) →
    w.arm ∈ y.reach → Uncounted w.arm g o l p s → (s.bay g.bay).state = .loading → o.noteSlot = some k →
    l.snapshot = some cs → 1 ≤ w.index → cs[w.index - 1]? = some c → (g.claims.map (·.index)).Pairwise (· < ·) →
    w.index ∉ g.claims.map (·.index) →
    let x := s.injector j
    let granted := Granted j y before after w g o l k cs c s
    let free := { x with state := .idle, firing := false, confirmTimer := none }
    (x.state = .releasing → y = { free with misses := 0 } → ∃ t : State, exec (.confirmEdge j) s = .next t ∧ granted t)
    ∧ (x.state = .releasing → x.confirmTimer ≠ none → x.misses < 2 → y = { free with misses := x.misses + 1 } → ∃ t : State,
      exec (.confirmTimerExpiry j) s = .next t ∧ granted t)
    ∧ (∀ tag : Byte, s.linkIdle → x.state = .fault → x.claimant = none → y = { x with state := .idle, misses := 0, strays := 0 } →
      ∃ t : State, exec (.injectorClear tag (b1 j.val)) s = .next (t.answered 0x5A tag (b1 j.val) ⟨.ok, []⟩) ∧ granted t)
    ∧ ∀ (tag : Byte) (arms : List ArmId), s.linkIdle → x.state = .idle ∨ x.state = .outOfService → arms.length ≤ 8 → arms.Nodup →
      y = { x with cls := y.cls, reach := arms, misses := 0, strays := 0, state := .idle } →
      let set := b1 j.val ++ b1 y.cls ++ b1 arms.length ++ arms.flatMap (fun a => b1 a.val) ++ b1 1
      ∃ t : State, exec (.injectorSet tag set) s = .next (t.answered 0x58 tag set ⟨.ok, []⟩) ∧ granted t

/-- INJECTOR SET, INJECTOR SHOT, INJECTOR CLEAR and INJECTOR GET by the injector's state, with no waiter in its reach, and the
BAD_VALUE of each (R126, R127, R128, R129, R140, R180, R195). R125 and R126 give the reach as a set: that SET keeps the order in which
it was sent, and GET returns it, is the model's choice (log 20). -/
def Obligations.InjectorRequests : Prop :=
  (∀ (s : State) (tag : Byte) (j cls mark shot : Nat) (arms : List Nat), s.linkIdle → j ≤ 255 → cls ≤ 255 → mark ≤ 255 →
      shot ≤ 4294967295 → arms.length ≤ 244 → (∀ a ∈ arms, a ≤ 255) →
      let set := b1 j ++ b1 cls ++ b1 arms.length ++ arms.flatMap b1 ++ b1 mark
      let shotBody := b1 j ++ b4 shot
      (15 < j ∨ cls = 0 ∨ 15 < cls ∨ arms = [] ∨ 8 < arms.length ∨ ¬ arms.Nodup ∨ (∃ a ∈ arms, 23 < a) ∨ 1 < mark →
        exec (.injectorSet tag set) s = .next (s.answered 0x58 tag set ⟨.badValue, []⟩))
      ∧ (15 < j ∨ shot < 100 ∨ 1000000 < shot →
        exec (.injectorShot tag shotBody) s = .next (s.answered 0x59 tag shotBody ⟨.badValue, []⟩))
      ∧ (15 < j → exec (.injectorClear tag (b1 j)) s = .next (s.answered 0x5A tag (b1 j) ⟨.badValue, []⟩)
        ∧ exec (.injectorGet tag (b1 j)) s = .next (s.answered 0x5B tag (b1 j) ⟨.badValue, []⟩))) ∧
  ∀ (s : State) (tag : Byte) (j : InjId) (cls shot : Nat) (arms : List ArmId), s.linkIdle → 1 ≤ cls → cls ≤ 15 →
    1 ≤ arms.length → arms.length ≤ 8 → arms.Nodup → 100 ≤ shot → shot ≤ 1000000 →
    let x := s.injector j
    let set := fun mark => b1 j.val ++ b1 cls ++ b1 arms.length ++ arms.flatMap (fun a => b1 a.val) ++ b1 mark
    let shotBody := b1 j.val ++ b4 shot
    let held := x.state = .claimed ∨ x.state = .releasing ∨ (x.state = .fault ∧ x.claimant ≠ none)
    let alone := fun (y : Injector) (t : State) => t.injector j = y ∧ OtherInjectors j s t ∧ SameExcept [.dosing, .att] s t
      ∧ t.dosing.recipes = s.dosing.recipes ∧ t.dosing.queues = s.dosing.queues
      ∧ (s.att.edges.injector ≠ .onset → t.att.injectorMarks[j] = true)
    (held → exec (.injectorSet tag (set 1)) s = .next (s.answered 0x58 tag (set 1) ⟨.inUse, []⟩)
      ∧ exec (.injectorSet tag (set 0)) s = .next (s.answered 0x58 tag (set 0) ⟨.inUse, []⟩))
    ∧ (x.state = .idle ∨ x.state = .outOfService →
      ((∀ w ∈ s.dosing.queue cls, w.arm ∉ arms) → exec (.injectorSet tag (set 1)) s =
        .next (State.answered 0x58 tag (set 1) ⟨.ok, []⟩
          (s.modInjector j fun y => { y with cls := cls, reach := arms, misses := 0, strays := 0, state := .idle })))
      ∧ exec (.injectorSet tag (set 0)) s = .next (State.answered 0x58 tag (set 0) ⟨.ok, []⟩
          (s.modInjector j fun y => { y with cls := cls, reach := arms, misses := 0, strays := 0, state := .outOfService })))
    ∧ (x.state = .fault → x.claimant = none →
      exec (.injectorSet tag (set 1)) s = .next (State.answered 0x58 tag (set 1) ⟨.ok, []⟩
          (s.modInjector j fun y => { y with cls := cls, reach := arms, misses := 0, strays := 0 }))
      ∧ ∃ t : State, exec (.injectorSet tag (set 0)) s = .next (t.answered 0x58 tag (set 0) ⟨.ok, []⟩)
        ∧ alone { x with cls := cls, reach := arms, misses := 0, strays := 0, state := .outOfService } t)
    ∧ (s.settings.cal = false →
      exec (.injectorShot tag shotBody) s = .next (s.answered 0x59 tag shotBody ⟨.unsealed, []⟩))
    ∧ (s.settings.cal = true → held →
      exec (.injectorShot tag shotBody) s = .next (s.answered 0x59 tag shotBody ⟨.inUse, []⟩))
    ∧ (s.settings.cal = true → ¬ held → exec (.injectorShot tag shotBody) s =
      .next (State.answered 0x59 tag shotBody ⟨.ok, []⟩ { s.modInjector j (fun y => { y with shotUl := shot }) with
        settings := { s.settings with sealCount := min 65535 (s.settings.sealCount + 1) } }))
    ∧ (x.state = .fault → x.claimant = none → (∀ w ∈ s.dosing.queue x.cls, w.arm ∉ x.reach) → ∃ t : State,
      exec (.injectorClear tag (b1 j.val)) s = .next (t.answered 0x5A tag (b1 j.val) ⟨.ok, []⟩)
        ∧ alone { x with state := .idle, misses := 0, strays := 0 } t)
    ∧ (x.state = .fault → x.claimant ≠ none →
      exec (.injectorClear tag (b1 j.val)) s = .next (s.answered 0x5A tag (b1 j.val) ⟨.inUse, []⟩))
    ∧ (x.state ≠ .fault →
      exec (.injectorClear tag (b1 j.val)) s = .next (s.answered 0x5A tag (b1 j.val) ⟨.wrongState, [0x00]⟩))
    ∧ (x.reach.length ≤ 8 →
      let got := fun claimant line : List Byte =>
        exec (.injectorGet tag (b1 j.val)) s = .next (s.answered 0x5B tag (b1 j.val) ⟨.ok,
          b1 x.cls ++ b1 x.reach.length ++ x.reach.flatMap (fun a => b1 a.val) ++ List.replicate (8 - x.reach.length) 0xFF
            ++ b4 x.shotUl ++ b1 x.state.code ++ claimant ++ b8 x.accNl
            ++ b1 ((if x.firing then 1 else 0) + (if x.queued then 2 else 0) + (if x.confirmTimer.isSome then 4 else 0))
            ++ b4 x.confirmed ++ b1 x.misses ++ b1 x.strays ++ b8 (x.shotUl * 1000) ++ b4 (owedShots x) ++ line⟩)
      (x.claimant = none → got (b1 0xFF ++ b1 0) (List.replicate 13 0))
      ∧ ∀ c g k, x.claimant = some c → s.seg? c.arm = some g → g.claims.find? (·.index == c.index) = some k →
        got (b1 c.arm.val ++ b1 c.index) (b4 g.orderNo ++ b1 g.compartment ++ b1 k.component.cls ++ b2 k.component.dose
          ++ b1 (if k.component.mandatory then 1 else 0) ++ b4 k.pacedMl))

/-- The recipe requests and QUEUE LIST (R122, R123, R132), with the BAD_VALUE of each; from a table that is kept LIST returns every
id once, ascending (R123). R121 gives the table no order: that a PUT keeps it in ascending id is the model's choice (log 13). -/
def Obligations.RecipeRequests : Prop :=
  (∀ (s : State) (tag : Byte) (id : Nat) (cs : List (Nat × Nat × Nat)), s.linkIdle → id ≤ 255 → cs.length ≤ 61 →
      (∀ c ∈ cs, c.1 ≤ 255 ∧ c.2.1 ≤ 65535 ∧ c.2.2 ≤ 255) →
      let body := b1 id ++ b1 cs.length ++ cs.flatMap fun c => b1 c.1 ++ b2 c.2.1 ++ b1 c.2.2
      (id = 0 ∨ cs = [] ∨ 3 < cs.length ∨ ¬ (cs.map (·.1)).Nodup
        ∨ (∃ c ∈ cs, c.1 = 0 ∨ 15 < c.1 ∨ c.2.1 = 0 ∨ 20000 < c.2.1 ∨ 1 < c.2.2) →
        exec (.recipePut tag body) s = .next (s.answered 0x50 tag body ⟨.badValue, []⟩))
      ∧ (id = 0 ∨ 15 < id → exec (.queueList tag (b1 id)) s = .next (s.answered 0x5C tag (b1 id) ⟨.badValue, []⟩))) ∧
  ∀ (s : State) (tag : Byte) (id : Nat) (cs : List Component), s.linkIdle → 1 ≤ id → id ≤ 255 → 1 ≤ cs.length →
    cs.length ≤ 3 → (cs.map (·.cls)).Nodup → (∀ c ∈ cs, 1 ≤ c.cls ∧ c.cls ≤ 15 ∧ 1 ≤ c.dose ∧ c.dose ≤ 20000) →
    let comps := fun xs : List Component => xs.flatMap fun c => b1 c.cls ++ b2 c.dose ++ b1 (if c.mandatory then 1 else 0)
    let body := b1 id ++ b1 cs.length ++ comps cs
    let ascending := fun rs : List Recipe => rs.Pairwise fun p q => p.id < q.id
    (s.dosing.recipes.find? (·.id == id) = none → s.dosing.recipes.length < 32 → ∃ rs,
      rs.Perm (⟨id, cs⟩ :: s.dosing.recipes) ∧ (ascending s.dosing.recipes → ascending rs) ∧ exec (.recipePut tag body) s =
        .next (State.answered 0x50 tag body ⟨.ok, [0x00]⟩ { s with dosing := { s.dosing with recipes := rs } }))
    ∧ (s.dosing.recipes.find? (·.id == id) = none → 32 ≤ s.dosing.recipes.length →
      exec (.recipePut tag body) s = .next (s.answered 0x50 tag body ⟨.full, []⟩))
    ∧ (s.dosing.recipes.find? (·.id == id) ≠ none → exec (.recipePut tag body) s =
      .next (State.answered 0x50 tag body ⟨.ok, [0x01]⟩ { s with dosing := { s.dosing with
        recipes := s.dosing.recipes.map fun r => if r.id = id then ⟨id, cs⟩ else r } }))
    ∧ (∀ r, s.dosing.recipes.find? (·.id == id) = some r →
      exec (.recipeGet tag (b1 id)) s = .next (s.answered 0x51 tag (b1 id) ⟨.ok, b1 r.components.length ++ comps r.components⟩)
      ∧ exec (.recipeRetire tag (b1 id)) s = .next (State.answered 0x52 tag (b1 id) ⟨.ok, []⟩
          { s with dosing := { s.dosing with recipes := s.dosing.recipes.filter fun q => q.id != id } }))
    ∧ (s.dosing.recipes.find? (·.id == id) = none →
      exec (.recipeGet tag (b1 id)) s = .next (s.answered 0x51 tag (b1 id) ⟨.notFound, []⟩)
      ∧ exec (.recipeRetire tag (b1 id)) s = .next (s.answered 0x52 tag (b1 id) ⟨.notFound, []⟩))
    ∧ exec (.recipeList tag []) s = .next (s.answered 0x53 tag [] ⟨.ok,
        b1 s.dosing.recipes.length ++ s.dosing.recipes.flatMap fun r => b1 r.id⟩)
    ∧ (RecipesKept s → ∃ ids : List Nat, ids.Pairwise (· < ·) ∧ (∀ i, i ∈ ids ↔ ∃ r ∈ s.dosing.recipes, r.id = i)
      ∧ exec (.recipeList tag []) s = .next (s.answered 0x53 tag [] ⟨.ok, b1 ids.length ++ ids.flatMap b1⟩))
    ∧ (∀ cls, 1 ≤ cls → cls ≤ 15 → exec (.queueList tag (b1 cls)) s = .next (s.answered 0x5C tag (b1 cls) ⟨.ok,
        b1 (s.dosing.queue cls).length ++ (s.dosing.queue cls).flatMap fun w => b1 w.arm.val ++ b1 w.index ++ b2 w.minute
          ++ b1 ((((s.seg? w.arm).bind (·.injectorTimer)).getD 0 + 999) / 1000)⟩))

/-! ## The profile cache -/

/-- A lookup answers a valid, non-dropping entry that matches, and no such entry of a smaller span is in the cache; it misses
only when there is none (R104). -/
def Obligations.LookupFindsSmallestSpan : Prop :=
  ∀ (c : Cache) (meter product : Nat), (∀ (e : EntryId) (x : Entry), c.entries[e] = some x → x.span ≤ 3) →
    let candidate := fun (e : EntryId) (x : Entry) => c.entries[e] = some x ∧ x.dropping = false ∧ x.meter = meter
      ∧ product / 10 ^ x.span = x.base / 10 ^ x.span
    (∀ e, c.lookup meter product = some e → ∃ x, candidate e x ∧ ∀ f y, candidate f y → x.span ≤ y.span)
    ∧ (c.lookup meter product = none → ∀ e x, ¬ candidate e x)

/-- PROFILE LOAD in the layout of R198: BAD_VALUE for an invalid profile (R111); a valid profile of two points goes in place, into
the lowest invalid slot, into the victim's slot, or is refused PINNED (R112); a pinned entry overwritten in place gives its
segment the new serial, and MIXED_CAL when it differs (R113); the oldest want that the profile matches is satisfied: its segment
pins the entry and goes on to AWAIT_INJECTOR within the event, and the list's emptying marks it as its edge selection asks (R61,
R109, R112, R168). -/
def Obligations.ProfileLoad : Prop :=
  (∀ (s : State) (tag : Byte) (m base span pr kn alpha low slow adv tol ser : Nat) (curve : List (Nat × Nat)), s.linkIdle →
      m ≤ 255 → base ≤ 65535 → span ≤ 255 → pr ≤ 255 → kn ≤ 4294967295 → alpha ≤ 65535 → low ≤ 4294967295 →
      slow ≤ 4294967295 → adv ≤ 4294967295 → tol ≤ 4294967295 → ser ≤ 65535 → curve.length ≤ 36 →
      (∀ c ∈ curve, c.1 ≤ 65535 ∧ c.2 ≤ 4294967295) →
      let body := b1 m ++ b2 base ++ b1 span ++ b1 pr ++ b4 kn ++ b2 alpha ++ b4 low ++ b4 slow ++ b4 adv ++ b4 tol ++ b2 ser
        ++ b1 curve.length ++ curve.flatMap fun c => b2 c.1 ++ b4 c.2
      23 < m ∨ 3 < span ∨ base = 0 ∨ 9999 < base ∨ base % 10 ^ span ≠ 0 ∨ 2 < pr ∨ kn < 1000 ∨ 2000000 < kn
        ∨ curve.length < 2 ∨ 6 < curve.length ∨ (∃ c ∈ curve, 9999 < c.1 ∨ c.2 < 90000 ∨ 110000 < c.2)
        ∨ ¬ curve.Pairwise (fun c d => c.1 < d.1) ∨ 2500 < alpha ∨ 2000000 < low ∨ 2000000 < slow ∨ 200000 < adv
        ∨ 1000000 < tol →
      exec (.profileLoad tag body) s = .next (s.answered 0x40 tag body ⟨.badValue, []⟩)) ∧
  ∀ (s : State) (tag : Byte) (m base span pr kn alpha low slow adv tol ser q1 f1 q2 f2 : Nat), s.linkIdle → m ≤ 23 →
    1 ≤ base → base ≤ 9999 → span ≤ 3 → base % 10 ^ span = 0 → pr ≤ 2 → 1000 ≤ kn → kn ≤ 2000000 → alpha ≤ 2500 →
    low ≤ 2000000 → slow ≤ 2000000 → adv ≤ 200000 → tol ≤ 1000000 → ser ≤ 65535 → q1 < q2 → q2 ≤ 9999 →
    90000 ≤ f1 → f1 ≤ 110000 → 90000 ≤ f2 → f2 ≤ 110000 →
    let body := b1 m ++ b2 base ++ b1 span ++ b1 pr ++ b4 kn ++ b2 alpha ++ b4 low ++ b4 slow ++ b4 adv ++ b4 tol ++ b2 ser
      ++ b1 2 ++ b2 q1 ++ b4 f1 ++ b2 q2 ++ b4 f2
    let entry := fun pins => (⟨m, base, span, if pr = 0 then .low else if pr = 1 then .medium else .high, kn,
      [⟨q1, f1⟩, ⟨q2, f2⟩], alpha, low, slow, adv, tol, ser, pins, false⟩ : Entry)
    let tagged := fun (e : EntryId) => ∃ x, s.entry e = some x ∧ x.meter = m ∧ x.base = base ∧ x.span = span
      ∧ x.dropping = false
    let written := fun (e : EntryId) (pins : Nat) => { s with cache := { s.cache with
      entries := s.cache.entries.set e.val (some (entry pins)) e.isLt, recency := e :: s.cache.recency.filter (· != e) } }
    let wanted := fun w : Want => w.meter = m ∧ w.product / 10 ^ span = base / 10 ^ span
    let loaded := fun (word : Byte) (e : EntryId) (victim : List Byte) (x : State) =>
      ((∀ w ∈ s.cache.wants, ¬ wanted w) → exec (.profileLoad tag body) s =
        .next (State.answered 0x40 tag body ⟨.ok, [word] ++ b1 e.val ++ victim ++ [0xFF]⟩ x))
      ∧ ∀ before w after g o l p k, s.cache.wants = before ++ w :: after → (∀ v ∈ before, ¬ wanted v) → wanted w →
        Uncounted w.arm g o l p s → (s.bay g.bay).state = .loading → o.noteSlot = some k → g.claims = [] → g.undosed = 0 →
        g.injectorTimer = none → ∃ v t : State, exec (.profileLoad tag body) s =
          .next (t.answered 0x40 tag body ⟨.ok, [word] ++ b1 e.val ++ victim ++ b1 w.arm.val⟩)
        ∧ v.arm w.arm = { s.arm w.arm with status := .segment { g with
            phase := .awaitInjector, entry := some e, calSerial := some ser, wantTimer := none } }
        ∧ v.cache = { x.cache with
            entries := s.cache.entries.set e.val (some (entry 1)) e.isLt
            wants := s.cache.wants.filter fun u => u.arm != w.arm }
        ∧ OnlyMarks [.want] s v ∧ WantMarked s v ∧ OtherArms w.arm s v ∧ SameExcept [.arms, .cache, .att] s v
        ∧ EntersInjector w.arm
            { g with phase := .awaitInjector, entry := some e, calSerial := some ser, wantTimer := none } k v t
    (∀ e x, tagged e → (∀ f, tagged f → f = e) → s.entry e = some x → (∀ a g, s.seg? a = some g → g.entry ≠ some e) →
      loaded 0x04 e [0xFF, 0xFF, 0xFF, 0xFF] (written e x.pinCount))
    ∧ (∀ e x a g, tagged e → (∀ f, tagged f → f = e) → s.entry e = some x → s.seg? a = some g → g.entry = some e →
      (∀ c h, s.seg? c = some h → h.entry = some e → c = a) → (∀ w ∈ s.cache.wants, ¬ wanted w) →
      exec (.profileLoad tag body) s = .next (State.answered 0x40 tag body
        ⟨.ok, [0x04] ++ b1 e.val ++ [0xFF, 0xFF, 0xFF, 0xFF, 0xFF]⟩ ((written e x.pinCount).modArm a fun y => { y with
          status := .segment { g with
            calSerial := some ser, mixedCal := g.mixedCal || decide (g.calSerial ≠ some ser) } })))
    ∧ (∀ e, (∀ f, ¬ tagged f) → s.entry e = none → (∀ f, f < e → s.entry f ≠ none) →
      loaded 0x05 e [0xFF, 0xFF, 0xFF, 0xFF] (written e 0))
    ∧ (∀ e x before after, (∀ f, ¬ tagged f) → (∀ f, s.entry f ≠ none) → s.entry e = some x → x.pinCount = 0 →
      s.cache.recency = before ++ e :: after →
      (∀ f ∈ after, ∀ y, s.entry f = some y → y.pinCount = 0 → y.priority ≠ x.priority) →
      (∀ f ∈ s.cache.recency, ∀ y, s.entry f = some y → y.pinCount = 0 → x.priority.code ≤ y.priority.code) →
      loaded 0x06 e (b1 x.meter ++ b2 x.base ++ b1 x.span) (written e 0))
    ∧ ((∀ f, ¬ tagged f) → (∀ f, s.entry f ≠ none) → (∀ f x, s.entry f = some x → x.pinCount ≠ 0) →
      exec (.profileLoad tag body) s = .next (s.answered 0x40 tag body ⟨.pinned, []⟩))

/-- PROFILE DROP, PROFILE READ, PROFILE LIST and WANT LIST (R114, R115, R110): BAD_VALUE, NOT_FOUND, and the entry that the tag
names, which of two entries of one tag is the one that is not dropping; the pinning arm is that of the one segment that holds the
entry (read off the segments: the model's reading, log 22). That a DROP of an entry already dropping returns that entry's slot is
the model's choice (log 19). -/
def Obligations.ProfileReads : Prop :=
  ∀ (s : State) (tag : Byte) (meter base span : Nat), s.linkIdle → meter ≤ 255 → base ≤ 65535 → span ≤ 255 →
    let body := b1 meter ++ b2 base ++ b1 span
    let tagged := fun (e : EntryId) (x : Entry) => s.entry e = some x ∧ x.meter = meter ∧ x.base = base ∧ x.span = span
    let pinner := fun (e : EntryId) (n : Nat) => ((∀ a g, s.seg? a = some g → g.entry ≠ some e) ∧ n = 0xFF)
      ∨ ∃ a g, s.seg? a = some g ∧ g.entry = some e ∧ n = a.val ∧ ∀ c h, s.seg? c = some h → h.entry = some e → c = a
    let dropped := fun (a : Answer) (t : State) => exec (.profileDrop tag body) s = .next (t.answered 0x42 tag body a)
    let read := fun a : Answer => exec (.profileRead tag body) s = .next (s.answered 0x41 tag body a)
    (23 < meter ∨ 3 < span → dropped ⟨.badValue, []⟩ s ∧ read ⟨.badValue, []⟩)
    ∧ (meter ≤ 23 → span ≤ 3 → (∀ e x, ¬ tagged e x) → dropped ⟨.notFound, []⟩ s ∧ read ⟨.notFound, []⟩)
    ∧ (∀ e x, meter ≤ 23 → span ≤ 3 → tagged e x → (∀ f y, tagged f y → y.dropping = x.dropping → f = e) →
      (x.dropping = true → ∀ f y, tagged f y → y.dropping = true) →
      (x.dropping = false → x.pinCount = 0 → dropped ⟨.ok, [0x02] ++ b1 e.val⟩ { s with cache := { s.cache with
        entries := s.cache.entries.set e.val none e.isLt, recency := s.cache.recency.filter (· != e) } })
      ∧ (x.dropping = false → x.pinCount ≠ 0 →
        dropped ⟨.ok, [0x07] ++ b1 e.val⟩ (s.modEntry e fun y => { y with dropping := true }))
      ∧ (x.dropping = true → dropped ⟨.ok, [0x07] ++ b1 e.val⟩ s)
      ∧ ∀ before after n, s.cache.recency = before ++ e :: after → e ∉ before → pinner e n →
        read ⟨.ok, b1 x.meter ++ b2 x.base ++ b1 x.span ++ b1 x.priority.code ++ b4 x.kn ++ b2 x.alpha ++ b4 x.lowStart
          ++ b4 x.slowStop ++ b4 x.closeAdvance ++ b4 x.overrunTol ++ b2 x.calSerial ++ b1 x.curve.length
          ++ x.curve.flatMap (fun p => b2 p.q ++ b4 p.mf)
          ++ b1 e.val ++ b1 x.pinCount ++ b1 (if x.dropping then 1 else 0) ++ b1 (before.length + 1) ++ b1 n⟩)
    ∧ (∀ arm : EntryId → Nat, (∀ e ∈ s.cache.recency, pinner e (arm e) ∧ s.entry e ≠ none) →
      exec (.profileList tag []) s = .next (s.answered 0x43 tag [] ⟨.ok,
        b1 s.cache.recency.length ++ s.cache.recency.flatMap fun e => match s.entry e with
          | some x => b1 e.val ++ b1 x.meter ++ b2 x.base ++ b1 x.span ++ b1 x.priority.code ++ b2 x.calSerial
              ++ b4 x.closeAdvance ++ b1 x.pinCount ++ b1 (arm e) ++ b1 (if x.dropping then 1 else 0)
          | none => []⟩))
    ∧ exec (.wantList tag []) s = .next (s.answered 0x44 tag [] ⟨.ok,
      b1 s.cache.wants.length ++ s.cache.wants.flatMap fun w => b1 w.arm.val ++ b1 w.meter ++ b2 w.product ++ b2 w.minute
        ++ b1 ((((s.seg? w.arm).bind (·.wantTimer)).getD 0 + 999) / 1000)⟩)

/-! ## Notes -/

/-- NOTE PEEK and NOTE TAKE of a part in the layout of R199, NOTE LIST and SERIAL SET (R157, R158, R159, R160, R156). That the
fields of the opening are sent as 0 while the note is RESERVED is, but for the serial, the model's choice (log 28). -/
def Obligations.NoteRequests : Prop :=
  ∀ (s : State) (tag : Byte) (k : SlotId) (part serial : Nat), s.linkIdle → part ≤ 8 → 1 ≤ serial → serial ≤ 4294967295 →
    let body := b1 k.val ++ b1 part
    let bit := fun (p : Bool) (n : Nat) => if p then n else 0
    let litre := fun ml : Nat => (ml + 500) / 1000
    let header := fun n : Note =>
      b1 k.val ++ b1 (s.slot k).code ++ b1 (bit n.opening.isSome 1 + bit n.sealedAt.isSome 2)
        ++ b4 n.orderNo ++ b4 n.card ++ b1 n.bay.val
        ++ (match n.opening with
            | some x => b4 x.serial ++ b2 x.carrier ++ b2 x.day ++ b2 x.minute ++ b2 x.sealCount
                ++ b1 (if x.mode = .standalone then 0 else 1)
            | none => List.replicate 13 0x00)
        ++ b1 (bit n.closedByRestart 1)
        ++ (match n.sealedAt with
            | some x => b2 x.day ++ b2 x.minute
            | none => List.replicate 4 0x00)
        ++ b1 n.lines.length ++ (List.range 8).flatMap (fun i => b1 ((n.lines.map (·.compartment)).getD i 0))
        ++ b4 ((n.lines.map fun l => litre l.gross).sum) ++ b4 ((n.lines.map fun l => litre l.net).sum)
    let entry := fun e : Additive =>
      b1 e.cls ++ b1 ((e.injector.map (·.val)).getD 0xFF) ++ b8 e.requiredUl ++ b8 e.dosedUl
        ++ b1 (bit e.undosed 1 + bit e.underdosed 2 + bit e.doseFault 4) ++ b4 (litre e.requiredUl) ++ b4 (litre e.dosedUl)
    let line := fun l : NoteLine =>
      b1 l.compartment ++ b2 l.product ++ b1 (if l.basis = .gross then 0 else 1) ++ b4 l.presetL ++ b1 l.arm.val
        ++ b1 l.segments ++ b4 l.indicated ++ b4 l.gross ++ b4 l.net ++ i8 l.sumTGV ++ b4 l.sumGVT
        ++ b2 (l.calSerial.getD 0xFFFF)
        ++ b2 (l.flags.toNat + (if l.finalState = some .part ∨ l.finalState = some .spent then 16384 else 0)
          + (if l.sumGVT = 0 then 0 else 32768))
        ++ b1 ((l.finalState.map LineState.code).getD 0xFF)
        ++ b4 (litre l.indicated) ++ b4 (litre l.gross) ++ b4 (litre l.net) ++ i2 (l.averageTemp.getD 0)
        ++ b1 l.additives.length ++ l.additives.flatMap entry
    let holds := fun n bytes => part = 0 ∧ bytes = header n ∨ ∃ i l, part = i + 1 ∧ n.lines[i]? = some l ∧ bytes = line l
    let slots := fun code : Nat => ((List.finRange 48).filter fun i => (s.slot i).code == code).length
    (s.slot k = .free → exec (.notePeek tag body) s = .next (s.answered 0x60 tag body ⟨.notFound, []⟩))
    ∧ (∀ n, (s.slot k).note? = some n → n.lines.length < part →
      exec (.notePeek tag body) s = .next (s.answered 0x60 tag body ⟨.notFound, []⟩))
    ∧ (∀ n bytes, (s.slot k).note? = some n → holds n bytes →
      exec (.notePeek tag body) s = .next (s.answered 0x60 tag body ⟨.ok, bytes⟩))
    ∧ ((∀ n, s.slot k ≠ .sealed n) → exec (.noteTake tag body) s = .next (s.answered 0x61 tag body ⟨.wrongState, [0x00]⟩))
    ∧ (∀ n bytes, s.slot k = .sealed n → holds n bytes →
      exec (.noteTake tag body) s = .next (State.answered 0x61 tag body ⟨.ok, bytes⟩ { s with notes := { s.notes with
        slots := s.notes.slots.set k.val .free k.isLt, sealedList := s.notes.sealedList.filter (· != k) } }))
    ∧ (∀ n, s.slot k = .sealed n → n.lines.length < part →
      exec (.noteTake tag body) s = .next (s.answered 0x61 tag body ⟨.notFound, []⟩))
    ∧ ((∀ i, s.slot i = .free) → exec (.serialSet tag (b4 serial)) s = .next (State.answered 0x63 tag (b4 serial) ⟨.ok, []⟩
        { s with notes := { s.notes with nextSerial := some serial } }))
    ∧ ((∃ i, s.slot i ≠ .free) → exec (.serialSet tag (b4 serial)) s = .next (s.answered 0x63 tag (b4 serial) ⟨.inUse, []⟩))
    ∧ (SealedListKept s → exec (.noteList tag []) s = .next (s.answered 0x62 tag [] ⟨.ok,
      b1 (slots 0) ++ b1 (slots 1) ++ b1 (slots 2) ++ b1 (slots 3) ++ b4 (s.notes.nextSerial.getD 0)
        ++ b1 (s.notes.sealedList.take 16).length
        ++ (s.notes.sealedList.take 16).flatMap fun i => match s.slot i with
          | .sealed n => b1 i.val ++ b4 ((n.opening.map (·.serial)).getD 0) ++ b4 n.orderNo ++ b1 n.bay.val
              ++ b2 ((n.sealedAt.map (·.day)).getD 0) ++ b2 ((n.sealedAt.map (·.minute)).getD 0)
          | _ => []⟩))

/-- What a note line shows: its litres rounded once from its sums, its average temperature to the nearest centidegree with
halves away from zero, absent without compensated volume, and SHORT (R100, R101, R156). -/
def Obligations.NoteFigures : Prop :=
  ∀ (l : NoteLine) (ml : Nat) (c : Int),
    (litres ml * 1000 ≤ ml + 500 ∧ ml + 500 < litres ml * 1000 + 1000)
    ∧ (l.sumGVT = 0 → l.averageTemp = none)
    ∧ (0 < l.sumGVT → (2 * (l.sumGVT * c - l.sumTGV).natAbs < l.sumGVT
        ∨ (2 * (l.sumGVT * c - l.sumTGV).natAbs = l.sumGVT ∧ l.sumTGV.natAbs ≤ (l.sumGVT * c).natAbs)) →
      l.averageTemp = some c)
    ∧ (l.finalState = some .part ∨ l.finalState = some .spent → l.short = true)
    ∧ (l.finalState = some .filled ∨ l.finalState = none → l.short = false)

/-! ## Clock, attention, modes -/

/-- CLOCK SET, CLOCK GET and the minute timer's expiry, with the day rollover at every change of day (R163, R164, R165, R17). -/
def Obligations.ClockAndRollover : Prop :=
  ∀ (s : State) (tag : Byte) (day minute : Nat), day ≤ 65535 → minute ≤ 65535 →
    let body := b2 day ++ b2 minute
    let cleared := s.permits.map fun p => { p with used := 0 }
    (s.linkIdle → 1439 < minute → exec (.clockSet tag body) s = .next (s.answered 0x70 tag body ⟨.badValue, []⟩))
    ∧ (s.linkIdle → minute ≤ 1439 → exec (.clockSet tag body) s = .next (State.answered 0x70 tag body ⟨.ok, []⟩
      { s with clock := ⟨day, minute, 60000⟩, permits := if s.clock.day = day then s.permits else cleared }))
    ∧ (s.linkIdle → exec (.clockGet tag []) s = .next (s.answered 0x71 tag [] ⟨.ok,
      b2 s.clock.day ++ b2 s.clock.minute ++ b1 ((s.clock.minuteTimer + 999) / 1000)⟩))
    ∧ (s.clock.minute < 1439 → exec .minuteTimerExpiry s =
      .next { s with clock := ⟨s.clock.day, s.clock.minute + 1, 60000⟩ })
    ∧ (s.clock.minute = 1439 → s.clock.day < 65535 → exec .minuteTimerExpiry s =
      .next { s with clock := ⟨s.clock.day + 1, 0, 60000⟩, permits := cleared })
    ∧ (s.clock.minute = 1439 → s.clock.day = 65535 → exec .minuteTimerExpiry s =
      .next { s with clock := ⟨0, 0, 60000⟩, permits := cleared })

/-- ATTENTION READ returns at most 24 of the marked sources in the fixed order, each in the layout of R195, clears their marks and
loses no other; an arm's occurrence record goes with its mark; the attention line stands exactly while a mark is left (R171, R169,
R170, R167).
ATTENTION EDGES replaces one selection and touches no mark; a note slot has none (R168). -/
def Obligations.AttentionRequests : Prop :=
  (∀ (s : State) (tag : Byte), s.linkIdle →
      let bit := fun (p : Bool) (n : Nat) => if p then n else 0
      let source := fun src : Source => match src with
        | .bay b => b1 0 ++ b1 b.val ++ b1 (if (s.bay b).state = .hold ∨ (s.bay b).state = .tripped then 1 else 0)
            ++ b1 (s.bay b).state.code
            ++ b1 (bit (!(s.bay b).inputs.ground) 1 + bit (!(s.bay b).inputs.vapour) 2 + bit (!(s.bay b).inputs.overfill) 4
              + bit (!(s.bay b).inputs.estop) 8)
            ++ b1 (if (s.bay b).holdFlags = 0 then 1 else 0)
        | .arm a => b1 1 ++ b1 a.val ++ b1 (if (s.arm a).status = .fault then 1 else 0) ++ b1 (s.arm a).status.code
            ++ b1 (bit s.att.occurrences[a].ended 1 + bit s.att.occurrences[a].busy 2 + bit s.att.occurrences[a].released 4)
            ++ b1 s.att.occurrences[a].refusedBays.toNat
        | .injector j => b1 2 ++ b1 j.val ++ b1 (if (s.injector j).state = .fault then 1 else 0)
            ++ b1 (s.injector j).state.code
        | .slot k => b1 3 ++ b1 k.val ++ (match s.slot k with
            | .free => b1 0 ++ b1 0 ++ b4 0
            | .reserved _ => b1 0 ++ b1 1 ++ b4 0
            | .opened _ => b1 0 ++ b1 2 ++ b4 0
            | .sealed n => b1 1 ++ b1 3 ++ b4 ((n.opening.map (·.serial)).getD 0))
        | .want => b1 4 ++ b1 0 ++ b1 (if s.cache.wants = [] then 0 else 1) ++ b1 s.cache.wants.length
        | .referral => b1 5 ++ b1 0 ++ b1 (if s.referrals = [] then 0 else 1) ++ b1 s.referrals.length
        | .cal => b1 6 ++ b1 0 ++ b1 (bit s.settings.cal 1)
      let order : List Source := (List.finRange 8).map .bay ++ (List.finRange 24).map .arm ++ (List.finRange 16).map .injector
        ++ (List.finRange 48).map .slot ++ [.want, .referral, .cal]
      let marked := order.filter s.att.marked
      ∃ t : State, exec (.attentionRead tag []) s = .next (t.answered 0x72 tag [] ⟨.ok,
        b1 (marked.take 24).length ++ b1 (marked.drop 24).length ++ (marked.take 24).flatMap source⟩)
      ∧ (∀ src, t.att.marked src = (s.att.marked src && decide (src ∉ marked.take 24)))
      ∧ (s.attentionLine = true ↔ marked ≠ []) ∧ (t.attentionLine = true ↔ marked.drop 24 ≠ [])
      ∧ (∀ a, .arm a ∈ marked.take 24 → t.att.occurrences[a] = ⟨false, false, false, 0⟩)
      ∧ (∀ a, .arm a ∉ marked.take 24 → t.att.occurrences[a] = s.att.occurrences[a])
      ∧ SameExcept [.att] s t ∧ t.att.edges = s.att.edges) ∧
  (∀ (s : State) (tag : Byte) (code : Nat) (sel : Edge), s.linkIdle →
      (code = 0 ∧ sel = .onset ∨ code = 1 ∧ sel = .clearance ∨ code = 2 ∧ sel = .both) →
      let set := fun kind (e : Edges) => exec (.attentionEdges tag (b1 kind ++ b1 code)) s =
        .next (State.answered 0x73 tag (b1 kind ++ b1 code) ⟨.ok, []⟩ { s with att := { s.att with edges := e } })
      set 0 { s.att.edges with bay := sel } ∧ set 1 { s.att.edges with arm := sel }
        ∧ set 2 { s.att.edges with injector := sel } ∧ set 4 { s.att.edges with want := sel }
        ∧ set 5 { s.att.edges with referral := sel } ∧ set 6 { s.att.edges with cal := sel }
        ∧ exec (.attentionEdges tag (b1 3 ++ b1 code)) s = .next (s.answered 0x73 tag (b1 3 ++ b1 code) ⟨.badValue, []⟩))

/-- MODE SET, SEAL SET and SETTINGS GET (R174, R179, R180, R184).
LINK GET returns the six counts, the frames left in the queue and the responses with its own, at an idle link and behind other frames
when a response has been sent (R193, R189, R191). -/
def Obligations.SettingsAndLinkRequests : Prop :=
  (∀ (s : State) (tag : Byte) (m : Mode) (code name v : Nat), s.linkIdle → code ≤ 255 → name ≤ 255 → v ≤ 65535 →
      let mode := b1 (if m = .standalone then 0 else 1)
      let body := b1 name ++ b2 v
      let counted := fun x : Settings => exec (.sealSet tag body) s = .next (State.answered 0x79 tag body ⟨.ok, []⟩
        { s with settings := { x with sealCount := min 65535 (s.settings.sealCount + 1) } })
      let tref := name = 0 ∧ (v = 1500 ∨ v = 2000)
      let fidelity := name = 1 ∧ 1 ≤ v ∧ v ≤ 1000
      ((∀ b, (s.bay b).state = .idle ∨ (s.bay b).state = .closed) → exec (.modeSet tag mode) s =
        .next (State.answered 0x78 tag mode ⟨.ok, []⟩ { s with settings := { s.settings with mode := m } }))
      ∧ ((∃ b, (s.bay b).state ≠ .idle ∧ (s.bay b).state ≠ .closed) → exec (.modeSet tag mode) s =
        .next (s.answered 0x78 tag mode ⟨.wrongState, [0x00]⟩))
      ∧ (2 ≤ code → exec (.modeSet tag (b1 code)) s = .next (s.answered 0x78 tag (b1 code) ⟨.badValue, []⟩))
      ∧ (¬ tref → ¬ fidelity → exec (.sealSet tag body) s = .next (s.answered 0x79 tag body ⟨.badValue, []⟩))
      ∧ (tref ∨ fidelity → s.settings.cal = false →
        exec (.sealSet tag body) s = .next (s.answered 0x79 tag body ⟨.unsealed, []⟩))
      ∧ (tref → s.settings.cal = true → counted { s.settings with tref := v })
      ∧ (fidelity → s.settings.cal = true → counted { s.settings with fidelityLimit := v })
      ∧ exec (.settingsGet tag []) s = .next (s.answered 0x7A tag [] ⟨.ok,
        b1 (if s.settings.mode = .standalone then 0 else 1) ++ b1 (if s.settings.strap then 1 else 0)
          ++ b1 (if s.settings.cal then 1 else 0) ++ b2 s.settings.tref ++ b2 s.settings.fidelityLimit
          ++ b2 s.settings.sealCount ++ b1 s.settings.startCause.code ++ b2 s.settings.restartCount⟩)) ∧
  (∀ (s : State) (tag : Byte),
      let counts := fun frames responses : Nat => b4 s.link.lengthErrors ++ b4 s.link.gapErrors ++ b4 s.link.lineErrors
        ++ b4 s.link.checkErrors ++ b4 s.link.busyCount ++ b4 s.link.dropCount ++ b1 frames ++ b1 responses
      (s.linkIdle → exec (.linkGet tag []) s =
        .next (s.answered 0x7B tag [] ⟨.ok, counts 0 (s.link.outbound.length + 1)⟩))
      ∧ ∀ r behind waiting, s.link.outbound = r :: behind → (∀ q ∈ s.link.outbound, q.isRestart = false) →
        s.link.inbound = ⟨0x7B, tag, []⟩ :: waiting → behind.length = 3 ∨ (waiting = [] ∧ behind.length < 3) →
        exec .responseSent s = .next (State.answered 0x7B tag [] ⟨.ok, counts waiting.length (behind.length + 1)⟩ { s with
          link := { s.link with outbound := behind, inbound := waiting }, outputs := s.outputs ++ [.response r.bytes] }))

/-- An assertion of CAL with no segment in acquisition closes every flowing segment SEAL, leaves the others, marks its source
and leaves the bays; a release changes its level and mark alone (R176, R178, R175). That a level repeated is no event is the
model's choice (log 21). -/
def Obligations.CalInput : Prop :=
  ∀ s : State,
    (s.settings.cal = true → exec .calAssertion s = .next s)
    ∧ (s.settings.cal = false → (∀ a g, s.seg? a = some g → g.phase ≠ .awaitProfile ∧ g.phase ≠ .awaitInjector) → ∃ t : State,
      exec .calAssertion s = .next t ∧ t.settings = { s.settings with cal := true }
        ∧ SameExcept [.settings, .arms, .att] s t ∧ (s.att.edges.cal ≠ .clearance → t.att.calMark = true)
        ∧ ∀ a, t.arm a = (s.arm a).modSeg fun g =>
            if g.phase = .lowStart ∨ g.phase = .high ∨ g.phase = .lowStop then
              { g with phase := .closing, endCause := some .calSeal, closeRecorded := true, closeCounter := 0, zeroRun := 0 }
            else g)
    ∧ (s.settings.cal = false → exec .calRelease s = .next s)
    ∧ (s.settings.cal = true → exec .calRelease s = .next { s with
        settings := { s.settings with cal := false }
        att := { s.att with calMark := s.att.calMark || decide (s.att.edges.cal ≠ .onset) } })

/-! ## Invariants of every step -/

/-- Every step keeps the permit table (R1, R16, R18). That it stands in ascending card order is the model's choice (log 13): R1 gives
it no order. -/
def Obligations.StepKeepsPermits : Prop :=
 ∀ s t : State, PermitsKept s → step s = .next t → PermitsKept t

/-- Every step keeps the order table (R21), and the visits with it: bound orders and bays and permits and notes name each other,
and the referral list holds exactly the AUTHORIZING bays (R11, R26, R29, R34, R150). The ascending card order of the permits within
the visits' invariant is the model's choice (log 13): R1 gives the table no order. -/
def Obligations.StepKeepsOrders : Prop :=
  (∀ s t : State, OrdersKept s → step s = .next t → OrdersKept t) ∧ ∀ s t : State, VisitsKept s → step s = .next t → VisitsKept t

/-- Every step keeps the link within its bounds (R186, R188, R191, R193). -/
def Obligations.StepKeepsLink : Prop :=
 ∀ s t : State, LinkKept s → step s = .next t → LinkKept t

/-- Every step keeps the arms' claims (R53, R54), and the profile cache with its pins, recency and wants (R103, R105, R106,
R108, R109, R114). -/
def Obligations.StepKeepsClaims : Prop :=
  (∀ s t : State, ClaimsKept s → step s = .next t → ClaimsKept t) ∧ ∀ s t : State, CacheKept s → step s = .next t → CacheKept t

/-- Every step keeps the injector records (R125, R135, R137, R138, R141) and the recipe table (R121, R122). That the table stands in
ascending id is the model's choice (log 13): R121 gives it no order. -/
def Obligations.StepKeepsInjectors : Prop :=
  (∀ s t : State, InjectorsKept s → step s = .next t → InjectorsKept t) ∧ ∀ s t : State, RecipesKept s → step s = .next t → RecipesKept t

/-- Every step keeps the sealed list the list of the SEALED slots (R155, R158, R159). -/
def Obligations.StepKeepsSealedList : Prop :=
 ∀ s t : State, SealedListKept s → step s = .next t → SealedListKept t

/-- Every step keeps the clock and the settings in range (R163, R179, R180, R181). -/
def Obligations.StepKeepsSettings : Prop :=
 ∀ s t : State, SettingsKept s → step s = .next t → SettingsKept t

/-- The invariants hold after a power-on reset, whatever the pins show. -/
def Obligations.ResetKeepsAll : Prop :=
  ∀ pins : PowerOnPins, let s := State.powerOn pins
    PermitsKept s ∧ OrdersKept s ∧ LinkKept s ∧ ClaimsKept s ∧ InjectorsKept s ∧ SealedListKept s ∧ SettingsKept s
      ∧ RecipesKept s ∧ VisitsKept s ∧ CacheKept s
end

