-- ==== Sys2Proof/Laws/State.lean ====
section
/-! SUPPORT. One lemma per field per update of State: what an update leaves alone, so that no proof unfolds a record update. -/

namespace Sys2Proof.Machine

variable (s : State)

@[simp] theorem State.modBay_permits (b : BayId) (f : Bay → Bay) : (s.modBay b f).permits = s.permits := rfl
@[simp] theorem State.modBay_orders (b : BayId) (f : Bay → Bay) : (s.modBay b f).orders = s.orders := rfl
@[simp] theorem State.modBay_referrals (b : BayId) (f : Bay → Bay) : (s.modBay b f).referrals = s.referrals := rfl
@[simp] theorem State.modBay_arms (b : BayId) (f : Bay → Bay) : (s.modBay b f).arms = s.arms := rfl
@[simp] theorem State.modBay_cache (b : BayId) (f : Bay → Bay) : (s.modBay b f).cache = s.cache := rfl
@[simp] theorem State.modBay_dosing (b : BayId) (f : Bay → Bay) : (s.modBay b f).dosing = s.dosing := rfl
@[simp] theorem State.modBay_notes (b : BayId) (f : Bay → Bay) : (s.modBay b f).notes = s.notes := rfl
@[simp] theorem State.modBay_clock (b : BayId) (f : Bay → Bay) : (s.modBay b f).clock = s.clock := rfl
@[simp] theorem State.modBay_att (b : BayId) (f : Bay → Bay) : (s.modBay b f).att = s.att := rfl
@[simp] theorem State.modBay_settings (b : BayId) (f : Bay → Bay) : (s.modBay b f).settings = s.settings := rfl
@[simp] theorem State.modBay_link (b : BayId) (f : Bay → Bay) : (s.modBay b f).link = s.link := rfl
@[simp] theorem State.modBay_outputs (b : BayId) (f : Bay → Bay) : (s.modBay b f).outputs = s.outputs := rfl
@[simp] theorem State.modBay_pending (b : BayId) (f : Bay → Bay) : (s.modBay b f).pending = s.pending := rfl
@[simp] theorem State.modBay_arm (b : BayId) (f : Bay → Bay) (x : ArmId) : (s.modBay b f).arm x = s.arm x := rfl
@[simp] theorem State.modBay_injector (b : BayId) (f : Bay → Bay) (x : InjId) : (s.modBay b f).injector x = s.injector x := rfl
@[simp] theorem State.modBay_slot (b : BayId) (f : Bay → Bay) (x : SlotId) : (s.modBay b f).slot x = s.slot x := rfl
@[simp] theorem State.modBay_entry (b : BayId) (f : Bay → Bay) (x : EntryId) : (s.modBay b f).entry x = s.entry x := rfl
@[simp] theorem State.modBay_seg? (b : BayId) (f : Bay → Bay) (x : ArmId) : (s.modBay b f).seg? x = s.seg? x := rfl
@[simp] theorem State.modBay_permit? (b : BayId) (f : Bay → Bay) (c' : Nat) : (s.modBay b f).permit? c' = s.permit? c' := rfl
@[simp] theorem State.modBay_order? (b : BayId) (f : Bay → Bay) (n : Nat) : (s.modBay b f).order? n = s.order? n := rfl

@[simp] theorem State.modArm_permits (a : ArmId) (f : Arm → Arm) : (s.modArm a f).permits = s.permits := rfl
@[simp] theorem State.modArm_orders (a : ArmId) (f : Arm → Arm) : (s.modArm a f).orders = s.orders := rfl
@[simp] theorem State.modArm_referrals (a : ArmId) (f : Arm → Arm) : (s.modArm a f).referrals = s.referrals := rfl
@[simp] theorem State.modArm_bays (a : ArmId) (f : Arm → Arm) : (s.modArm a f).bays = s.bays := rfl
@[simp] theorem State.modArm_cache (a : ArmId) (f : Arm → Arm) : (s.modArm a f).cache = s.cache := rfl
@[simp] theorem State.modArm_dosing (a : ArmId) (f : Arm → Arm) : (s.modArm a f).dosing = s.dosing := rfl
@[simp] theorem State.modArm_notes (a : ArmId) (f : Arm → Arm) : (s.modArm a f).notes = s.notes := rfl
@[simp] theorem State.modArm_clock (a : ArmId) (f : Arm → Arm) : (s.modArm a f).clock = s.clock := rfl
@[simp] theorem State.modArm_att (a : ArmId) (f : Arm → Arm) : (s.modArm a f).att = s.att := rfl
@[simp] theorem State.modArm_settings (a : ArmId) (f : Arm → Arm) : (s.modArm a f).settings = s.settings := rfl
@[simp] theorem State.modArm_link (a : ArmId) (f : Arm → Arm) : (s.modArm a f).link = s.link := rfl
@[simp] theorem State.modArm_outputs (a : ArmId) (f : Arm → Arm) : (s.modArm a f).outputs = s.outputs := rfl
@[simp] theorem State.modArm_pending (a : ArmId) (f : Arm → Arm) : (s.modArm a f).pending = s.pending := rfl
@[simp] theorem State.modArm_bay (a : ArmId) (f : Arm → Arm) (x : BayId) : (s.modArm a f).bay x = s.bay x := rfl
@[simp] theorem State.modArm_injector (a : ArmId) (f : Arm → Arm) (x : InjId) : (s.modArm a f).injector x = s.injector x := rfl
@[simp] theorem State.modArm_slot (a : ArmId) (f : Arm → Arm) (x : SlotId) : (s.modArm a f).slot x = s.slot x := rfl
@[simp] theorem State.modArm_entry (a : ArmId) (f : Arm → Arm) (x : EntryId) : (s.modArm a f).entry x = s.entry x := rfl
@[simp] theorem State.modArm_permit? (a : ArmId) (f : Arm → Arm) (c' : Nat) : (s.modArm a f).permit? c' = s.permit? c' := rfl
@[simp] theorem State.modArm_order? (a : ArmId) (f : Arm → Arm) (n : Nat) : (s.modArm a f).order? n = s.order? n := rfl

@[simp] theorem State.modSeg_permits (a : ArmId) (f : Segment → Segment) : (s.modSeg a f).permits = s.permits := rfl
@[simp] theorem State.modSeg_orders (a : ArmId) (f : Segment → Segment) : (s.modSeg a f).orders = s.orders := rfl
@[simp] theorem State.modSeg_referrals (a : ArmId) (f : Segment → Segment) : (s.modSeg a f).referrals = s.referrals := rfl
@[simp] theorem State.modSeg_bays (a : ArmId) (f : Segment → Segment) : (s.modSeg a f).bays = s.bays := rfl
@[simp] theorem State.modSeg_cache (a : ArmId) (f : Segment → Segment) : (s.modSeg a f).cache = s.cache := rfl
@[simp] theorem State.modSeg_dosing (a : ArmId) (f : Segment → Segment) : (s.modSeg a f).dosing = s.dosing := rfl
@[simp] theorem State.modSeg_notes (a : ArmId) (f : Segment → Segment) : (s.modSeg a f).notes = s.notes := rfl
@[simp] theorem State.modSeg_clock (a : ArmId) (f : Segment → Segment) : (s.modSeg a f).clock = s.clock := rfl
@[simp] theorem State.modSeg_att (a : ArmId) (f : Segment → Segment) : (s.modSeg a f).att = s.att := rfl
@[simp] theorem State.modSeg_settings (a : ArmId) (f : Segment → Segment) : (s.modSeg a f).settings = s.settings := rfl
@[simp] theorem State.modSeg_link (a : ArmId) (f : Segment → Segment) : (s.modSeg a f).link = s.link := rfl
@[simp] theorem State.modSeg_outputs (a : ArmId) (f : Segment → Segment) : (s.modSeg a f).outputs = s.outputs := rfl
@[simp] theorem State.modSeg_pending (a : ArmId) (f : Segment → Segment) : (s.modSeg a f).pending = s.pending := rfl
@[simp] theorem State.modSeg_bay (a : ArmId) (f : Segment → Segment) (x : BayId) : (s.modSeg a f).bay x = s.bay x := rfl
@[simp] theorem State.modSeg_injector (a : ArmId) (f : Segment → Segment) (x : InjId) : (s.modSeg a f).injector x = s.injector x := rfl
@[simp] theorem State.modSeg_slot (a : ArmId) (f : Segment → Segment) (x : SlotId) : (s.modSeg a f).slot x = s.slot x := rfl
@[simp] theorem State.modSeg_entry (a : ArmId) (f : Segment → Segment) (x : EntryId) : (s.modSeg a f).entry x = s.entry x := rfl
@[simp] theorem State.modSeg_permit? (a : ArmId) (f : Segment → Segment) (c' : Nat) : (s.modSeg a f).permit? c' = s.permit? c' := rfl
@[simp] theorem State.modSeg_order? (a : ArmId) (f : Segment → Segment) (n : Nat) : (s.modSeg a f).order? n = s.order? n := rfl

@[simp] theorem State.modInjector_permits (j : InjId) (f : Injector → Injector) : (s.modInjector j f).permits = s.permits := rfl
@[simp] theorem State.modInjector_orders (j : InjId) (f : Injector → Injector) : (s.modInjector j f).orders = s.orders := rfl
@[simp] theorem State.modInjector_referrals (j : InjId) (f : Injector → Injector) : (s.modInjector j f).referrals = s.referrals := rfl
@[simp] theorem State.modInjector_bays (j : InjId) (f : Injector → Injector) : (s.modInjector j f).bays = s.bays := rfl
@[simp] theorem State.modInjector_arms (j : InjId) (f : Injector → Injector) : (s.modInjector j f).arms = s.arms := rfl
@[simp] theorem State.modInjector_cache (j : InjId) (f : Injector → Injector) : (s.modInjector j f).cache = s.cache := rfl
@[simp] theorem State.modInjector_notes (j : InjId) (f : Injector → Injector) : (s.modInjector j f).notes = s.notes := rfl
@[simp] theorem State.modInjector_clock (j : InjId) (f : Injector → Injector) : (s.modInjector j f).clock = s.clock := rfl
@[simp] theorem State.modInjector_att (j : InjId) (f : Injector → Injector) : (s.modInjector j f).att = s.att := rfl
@[simp] theorem State.modInjector_settings (j : InjId) (f : Injector → Injector) : (s.modInjector j f).settings = s.settings := rfl
@[simp] theorem State.modInjector_link (j : InjId) (f : Injector → Injector) : (s.modInjector j f).link = s.link := rfl
@[simp] theorem State.modInjector_outputs (j : InjId) (f : Injector → Injector) : (s.modInjector j f).outputs = s.outputs := rfl
@[simp] theorem State.modInjector_pending (j : InjId) (f : Injector → Injector) : (s.modInjector j f).pending = s.pending := rfl
@[simp] theorem State.modInjector_bay (j : InjId) (f : Injector → Injector) (x : BayId) : (s.modInjector j f).bay x = s.bay x := rfl
@[simp] theorem State.modInjector_arm (j : InjId) (f : Injector → Injector) (x : ArmId) : (s.modInjector j f).arm x = s.arm x := rfl
@[simp] theorem State.modInjector_slot (j : InjId) (f : Injector → Injector) (x : SlotId) : (s.modInjector j f).slot x = s.slot x := rfl
@[simp] theorem State.modInjector_entry (j : InjId) (f : Injector → Injector) (x : EntryId) : (s.modInjector j f).entry x = s.entry x := rfl
@[simp] theorem State.modInjector_seg? (j : InjId) (f : Injector → Injector) (x : ArmId) : (s.modInjector j f).seg? x = s.seg? x := rfl
@[simp] theorem State.modInjector_permit? (j : InjId) (f : Injector → Injector) (c' : Nat) : (s.modInjector j f).permit? c' = s.permit? c' := rfl
@[simp] theorem State.modInjector_order? (j : InjId) (f : Injector → Injector) (n : Nat) : (s.modInjector j f).order? n = s.order? n := rfl

@[simp] theorem State.setSlot_permits (k : SlotId) (v : NoteSlot) : (s.setSlot k v).permits = s.permits := rfl
@[simp] theorem State.setSlot_orders (k : SlotId) (v : NoteSlot) : (s.setSlot k v).orders = s.orders := rfl
@[simp] theorem State.setSlot_referrals (k : SlotId) (v : NoteSlot) : (s.setSlot k v).referrals = s.referrals := rfl
@[simp] theorem State.setSlot_bays (k : SlotId) (v : NoteSlot) : (s.setSlot k v).bays = s.bays := rfl
@[simp] theorem State.setSlot_arms (k : SlotId) (v : NoteSlot) : (s.setSlot k v).arms = s.arms := rfl
@[simp] theorem State.setSlot_cache (k : SlotId) (v : NoteSlot) : (s.setSlot k v).cache = s.cache := rfl
@[simp] theorem State.setSlot_dosing (k : SlotId) (v : NoteSlot) : (s.setSlot k v).dosing = s.dosing := rfl
@[simp] theorem State.setSlot_clock (k : SlotId) (v : NoteSlot) : (s.setSlot k v).clock = s.clock := rfl
@[simp] theorem State.setSlot_att (k : SlotId) (v : NoteSlot) : (s.setSlot k v).att = s.att := rfl
@[simp] theorem State.setSlot_settings (k : SlotId) (v : NoteSlot) : (s.setSlot k v).settings = s.settings := rfl
@[simp] theorem State.setSlot_link (k : SlotId) (v : NoteSlot) : (s.setSlot k v).link = s.link := rfl
@[simp] theorem State.setSlot_outputs (k : SlotId) (v : NoteSlot) : (s.setSlot k v).outputs = s.outputs := rfl
@[simp] theorem State.setSlot_pending (k : SlotId) (v : NoteSlot) : (s.setSlot k v).pending = s.pending := rfl
@[simp] theorem State.setSlot_bay (k : SlotId) (v : NoteSlot) (x : BayId) : (s.setSlot k v).bay x = s.bay x := rfl
@[simp] theorem State.setSlot_arm (k : SlotId) (v : NoteSlot) (x : ArmId) : (s.setSlot k v).arm x = s.arm x := rfl
@[simp] theorem State.setSlot_injector (k : SlotId) (v : NoteSlot) (x : InjId) : (s.setSlot k v).injector x = s.injector x := rfl
@[simp] theorem State.setSlot_entry (k : SlotId) (v : NoteSlot) (x : EntryId) : (s.setSlot k v).entry x = s.entry x := rfl
@[simp] theorem State.setSlot_seg? (k : SlotId) (v : NoteSlot) (x : ArmId) : (s.setSlot k v).seg? x = s.seg? x := rfl
@[simp] theorem State.setSlot_permit? (k : SlotId) (v : NoteSlot) (c' : Nat) : (s.setSlot k v).permit? c' = s.permit? c' := rfl
@[simp] theorem State.setSlot_order? (k : SlotId) (v : NoteSlot) (n : Nat) : (s.setSlot k v).order? n = s.order? n := rfl

@[simp] theorem State.setEntry_permits (e : EntryId) (v : Option Entry) : (s.setEntry e v).permits = s.permits := rfl
@[simp] theorem State.setEntry_orders (e : EntryId) (v : Option Entry) : (s.setEntry e v).orders = s.orders := rfl
@[simp] theorem State.setEntry_referrals (e : EntryId) (v : Option Entry) : (s.setEntry e v).referrals = s.referrals := rfl
@[simp] theorem State.setEntry_bays (e : EntryId) (v : Option Entry) : (s.setEntry e v).bays = s.bays := rfl
@[simp] theorem State.setEntry_arms (e : EntryId) (v : Option Entry) : (s.setEntry e v).arms = s.arms := rfl
@[simp] theorem State.setEntry_dosing (e : EntryId) (v : Option Entry) : (s.setEntry e v).dosing = s.dosing := rfl
@[simp] theorem State.setEntry_notes (e : EntryId) (v : Option Entry) : (s.setEntry e v).notes = s.notes := rfl
@[simp] theorem State.setEntry_clock (e : EntryId) (v : Option Entry) : (s.setEntry e v).clock = s.clock := rfl
@[simp] theorem State.setEntry_att (e : EntryId) (v : Option Entry) : (s.setEntry e v).att = s.att := rfl
@[simp] theorem State.setEntry_settings (e : EntryId) (v : Option Entry) : (s.setEntry e v).settings = s.settings := rfl
@[simp] theorem State.setEntry_link (e : EntryId) (v : Option Entry) : (s.setEntry e v).link = s.link := rfl
@[simp] theorem State.setEntry_outputs (e : EntryId) (v : Option Entry) : (s.setEntry e v).outputs = s.outputs := rfl
@[simp] theorem State.setEntry_pending (e : EntryId) (v : Option Entry) : (s.setEntry e v).pending = s.pending := rfl
@[simp] theorem State.setEntry_bay (e : EntryId) (v : Option Entry) (x : BayId) : (s.setEntry e v).bay x = s.bay x := rfl
@[simp] theorem State.setEntry_arm (e : EntryId) (v : Option Entry) (x : ArmId) : (s.setEntry e v).arm x = s.arm x := rfl
@[simp] theorem State.setEntry_injector (e : EntryId) (v : Option Entry) (x : InjId) : (s.setEntry e v).injector x = s.injector x := rfl
@[simp] theorem State.setEntry_slot (e : EntryId) (v : Option Entry) (x : SlotId) : (s.setEntry e v).slot x = s.slot x := rfl
@[simp] theorem State.setEntry_seg? (e : EntryId) (v : Option Entry) (x : ArmId) : (s.setEntry e v).seg? x = s.seg? x := rfl
@[simp] theorem State.setEntry_permit? (e : EntryId) (v : Option Entry) (c' : Nat) : (s.setEntry e v).permit? c' = s.permit? c' := rfl
@[simp] theorem State.setEntry_order? (e : EntryId) (v : Option Entry) (n : Nat) : (s.setEntry e v).order? n = s.order? n := rfl

@[simp] theorem State.modEntry_permits (e : EntryId) (f : Entry → Entry) : (s.modEntry e f).permits = s.permits := rfl
@[simp] theorem State.modEntry_orders (e : EntryId) (f : Entry → Entry) : (s.modEntry e f).orders = s.orders := rfl
@[simp] theorem State.modEntry_referrals (e : EntryId) (f : Entry → Entry) : (s.modEntry e f).referrals = s.referrals := rfl
@[simp] theorem State.modEntry_bays (e : EntryId) (f : Entry → Entry) : (s.modEntry e f).bays = s.bays := rfl
@[simp] theorem State.modEntry_arms (e : EntryId) (f : Entry → Entry) : (s.modEntry e f).arms = s.arms := rfl
@[simp] theorem State.modEntry_dosing (e : EntryId) (f : Entry → Entry) : (s.modEntry e f).dosing = s.dosing := rfl
@[simp] theorem State.modEntry_notes (e : EntryId) (f : Entry → Entry) : (s.modEntry e f).notes = s.notes := rfl
@[simp] theorem State.modEntry_clock (e : EntryId) (f : Entry → Entry) : (s.modEntry e f).clock = s.clock := rfl
@[simp] theorem State.modEntry_att (e : EntryId) (f : Entry → Entry) : (s.modEntry e f).att = s.att := rfl
@[simp] theorem State.modEntry_settings (e : EntryId) (f : Entry → Entry) : (s.modEntry e f).settings = s.settings := rfl
@[simp] theorem State.modEntry_link (e : EntryId) (f : Entry → Entry) : (s.modEntry e f).link = s.link := rfl
@[simp] theorem State.modEntry_outputs (e : EntryId) (f : Entry → Entry) : (s.modEntry e f).outputs = s.outputs := rfl
@[simp] theorem State.modEntry_pending (e : EntryId) (f : Entry → Entry) : (s.modEntry e f).pending = s.pending := rfl
@[simp] theorem State.modEntry_bay (e : EntryId) (f : Entry → Entry) (x : BayId) : (s.modEntry e f).bay x = s.bay x := rfl
@[simp] theorem State.modEntry_arm (e : EntryId) (f : Entry → Entry) (x : ArmId) : (s.modEntry e f).arm x = s.arm x := rfl
@[simp] theorem State.modEntry_injector (e : EntryId) (f : Entry → Entry) (x : InjId) : (s.modEntry e f).injector x = s.injector x := rfl
@[simp] theorem State.modEntry_slot (e : EntryId) (f : Entry → Entry) (x : SlotId) : (s.modEntry e f).slot x = s.slot x := rfl
@[simp] theorem State.modEntry_seg? (e : EntryId) (f : Entry → Entry) (x : ArmId) : (s.modEntry e f).seg? x = s.seg? x := rfl
@[simp] theorem State.modEntry_permit? (e : EntryId) (f : Entry → Entry) (c' : Nat) : (s.modEntry e f).permit? c' = s.permit? c' := rfl
@[simp] theorem State.modEntry_order? (e : EntryId) (f : Entry → Entry) (n : Nat) : (s.modEntry e f).order? n = s.order? n := rfl

@[simp] theorem State.modPermit_orders (c : Nat) (f : Permit → Permit) : (s.modPermit c f).orders = s.orders := rfl
@[simp] theorem State.modPermit_referrals (c : Nat) (f : Permit → Permit) : (s.modPermit c f).referrals = s.referrals := rfl
@[simp] theorem State.modPermit_bays (c : Nat) (f : Permit → Permit) : (s.modPermit c f).bays = s.bays := rfl
@[simp] theorem State.modPermit_arms (c : Nat) (f : Permit → Permit) : (s.modPermit c f).arms = s.arms := rfl
@[simp] theorem State.modPermit_cache (c : Nat) (f : Permit → Permit) : (s.modPermit c f).cache = s.cache := rfl
@[simp] theorem State.modPermit_dosing (c : Nat) (f : Permit → Permit) : (s.modPermit c f).dosing = s.dosing := rfl
@[simp] theorem State.modPermit_notes (c : Nat) (f : Permit → Permit) : (s.modPermit c f).notes = s.notes := rfl
@[simp] theorem State.modPermit_clock (c : Nat) (f : Permit → Permit) : (s.modPermit c f).clock = s.clock := rfl
@[simp] theorem State.modPermit_att (c : Nat) (f : Permit → Permit) : (s.modPermit c f).att = s.att := rfl
@[simp] theorem State.modPermit_settings (c : Nat) (f : Permit → Permit) : (s.modPermit c f).settings = s.settings := rfl
@[simp] theorem State.modPermit_link (c : Nat) (f : Permit → Permit) : (s.modPermit c f).link = s.link := rfl
@[simp] theorem State.modPermit_outputs (c : Nat) (f : Permit → Permit) : (s.modPermit c f).outputs = s.outputs := rfl
@[simp] theorem State.modPermit_pending (c : Nat) (f : Permit → Permit) : (s.modPermit c f).pending = s.pending := rfl
@[simp] theorem State.modPermit_bay (c : Nat) (f : Permit → Permit) (x : BayId) : (s.modPermit c f).bay x = s.bay x := rfl
@[simp] theorem State.modPermit_arm (c : Nat) (f : Permit → Permit) (x : ArmId) : (s.modPermit c f).arm x = s.arm x := rfl
@[simp] theorem State.modPermit_injector (c : Nat) (f : Permit → Permit) (x : InjId) : (s.modPermit c f).injector x = s.injector x := rfl
@[simp] theorem State.modPermit_slot (c : Nat) (f : Permit → Permit) (x : SlotId) : (s.modPermit c f).slot x = s.slot x := rfl
@[simp] theorem State.modPermit_entry (c : Nat) (f : Permit → Permit) (x : EntryId) : (s.modPermit c f).entry x = s.entry x := rfl
@[simp] theorem State.modPermit_seg? (c : Nat) (f : Permit → Permit) (x : ArmId) : (s.modPermit c f).seg? x = s.seg? x := rfl
@[simp] theorem State.modPermit_order? (c : Nat) (f : Permit → Permit) (n : Nat) : (s.modPermit c f).order? n = s.order? n := rfl

@[simp] theorem State.removePermit_orders (c : Nat) : (s.removePermit c).orders = s.orders := rfl
@[simp] theorem State.removePermit_referrals (c : Nat) : (s.removePermit c).referrals = s.referrals := rfl
@[simp] theorem State.removePermit_bays (c : Nat) : (s.removePermit c).bays = s.bays := rfl
@[simp] theorem State.removePermit_arms (c : Nat) : (s.removePermit c).arms = s.arms := rfl
@[simp] theorem State.removePermit_cache (c : Nat) : (s.removePermit c).cache = s.cache := rfl
@[simp] theorem State.removePermit_dosing (c : Nat) : (s.removePermit c).dosing = s.dosing := rfl
@[simp] theorem State.removePermit_notes (c : Nat) : (s.removePermit c).notes = s.notes := rfl
@[simp] theorem State.removePermit_clock (c : Nat) : (s.removePermit c).clock = s.clock := rfl
@[simp] theorem State.removePermit_att (c : Nat) : (s.removePermit c).att = s.att := rfl
@[simp] theorem State.removePermit_settings (c : Nat) : (s.removePermit c).settings = s.settings := rfl
@[simp] theorem State.removePermit_link (c : Nat) : (s.removePermit c).link = s.link := rfl
@[simp] theorem State.removePermit_outputs (c : Nat) : (s.removePermit c).outputs = s.outputs := rfl
@[simp] theorem State.removePermit_pending (c : Nat) : (s.removePermit c).pending = s.pending := rfl
@[simp] theorem State.removePermit_bay (c : Nat) (x : BayId) : (s.removePermit c).bay x = s.bay x := rfl
@[simp] theorem State.removePermit_arm (c : Nat) (x : ArmId) : (s.removePermit c).arm x = s.arm x := rfl
@[simp] theorem State.removePermit_injector (c : Nat) (x : InjId) : (s.removePermit c).injector x = s.injector x := rfl
@[simp] theorem State.removePermit_slot (c : Nat) (x : SlotId) : (s.removePermit c).slot x = s.slot x := rfl
@[simp] theorem State.removePermit_entry (c : Nat) (x : EntryId) : (s.removePermit c).entry x = s.entry x := rfl
@[simp] theorem State.removePermit_seg? (c : Nat) (x : ArmId) : (s.removePermit c).seg? x = s.seg? x := rfl
@[simp] theorem State.removePermit_order? (c : Nat) (n : Nat) : (s.removePermit c).order? n = s.order? n := rfl

@[simp] theorem State.rollover_orders : (s.rollover).orders = s.orders := rfl
@[simp] theorem State.rollover_referrals : (s.rollover).referrals = s.referrals := rfl
@[simp] theorem State.rollover_bays : (s.rollover).bays = s.bays := rfl
@[simp] theorem State.rollover_arms : (s.rollover).arms = s.arms := rfl
@[simp] theorem State.rollover_cache : (s.rollover).cache = s.cache := rfl
@[simp] theorem State.rollover_dosing : (s.rollover).dosing = s.dosing := rfl
@[simp] theorem State.rollover_notes : (s.rollover).notes = s.notes := rfl
@[simp] theorem State.rollover_clock : (s.rollover).clock = s.clock := rfl
@[simp] theorem State.rollover_att : (s.rollover).att = s.att := rfl
@[simp] theorem State.rollover_settings : (s.rollover).settings = s.settings := rfl
@[simp] theorem State.rollover_link : (s.rollover).link = s.link := rfl
@[simp] theorem State.rollover_outputs : (s.rollover).outputs = s.outputs := rfl
@[simp] theorem State.rollover_pending : (s.rollover).pending = s.pending := rfl
@[simp] theorem State.rollover_bay (x : BayId) : (s.rollover).bay x = s.bay x := rfl
@[simp] theorem State.rollover_arm (x : ArmId) : (s.rollover).arm x = s.arm x := rfl
@[simp] theorem State.rollover_injector (x : InjId) : (s.rollover).injector x = s.injector x := rfl
@[simp] theorem State.rollover_slot (x : SlotId) : (s.rollover).slot x = s.slot x := rfl
@[simp] theorem State.rollover_entry (x : EntryId) : (s.rollover).entry x = s.entry x := rfl
@[simp] theorem State.rollover_seg? (x : ArmId) : (s.rollover).seg? x = s.seg? x := rfl
@[simp] theorem State.rollover_order? (n : Nat) : (s.rollover).order? n = s.order? n := rfl

@[simp] theorem State.modOrder_permits (o : Nat) (f : Order → Order) : (s.modOrder o f).permits = s.permits := rfl
@[simp] theorem State.modOrder_referrals (o : Nat) (f : Order → Order) : (s.modOrder o f).referrals = s.referrals := rfl
@[simp] theorem State.modOrder_bays (o : Nat) (f : Order → Order) : (s.modOrder o f).bays = s.bays := rfl
@[simp] theorem State.modOrder_arms (o : Nat) (f : Order → Order) : (s.modOrder o f).arms = s.arms := rfl
@[simp] theorem State.modOrder_cache (o : Nat) (f : Order → Order) : (s.modOrder o f).cache = s.cache := rfl
@[simp] theorem State.modOrder_dosing (o : Nat) (f : Order → Order) : (s.modOrder o f).dosing = s.dosing := rfl
@[simp] theorem State.modOrder_notes (o : Nat) (f : Order → Order) : (s.modOrder o f).notes = s.notes := rfl
@[simp] theorem State.modOrder_clock (o : Nat) (f : Order → Order) : (s.modOrder o f).clock = s.clock := rfl
@[simp] theorem State.modOrder_att (o : Nat) (f : Order → Order) : (s.modOrder o f).att = s.att := rfl
@[simp] theorem State.modOrder_settings (o : Nat) (f : Order → Order) : (s.modOrder o f).settings = s.settings := rfl
@[simp] theorem State.modOrder_link (o : Nat) (f : Order → Order) : (s.modOrder o f).link = s.link := rfl
@[simp] theorem State.modOrder_outputs (o : Nat) (f : Order → Order) : (s.modOrder o f).outputs = s.outputs := rfl
@[simp] theorem State.modOrder_pending (o : Nat) (f : Order → Order) : (s.modOrder o f).pending = s.pending := rfl
@[simp] theorem State.modOrder_bay (o : Nat) (f : Order → Order) (x : BayId) : (s.modOrder o f).bay x = s.bay x := rfl
@[simp] theorem State.modOrder_arm (o : Nat) (f : Order → Order) (x : ArmId) : (s.modOrder o f).arm x = s.arm x := rfl
@[simp] theorem State.modOrder_injector (o : Nat) (f : Order → Order) (x : InjId) : (s.modOrder o f).injector x = s.injector x := rfl
@[simp] theorem State.modOrder_slot (o : Nat) (f : Order → Order) (x : SlotId) : (s.modOrder o f).slot x = s.slot x := rfl
@[simp] theorem State.modOrder_entry (o : Nat) (f : Order → Order) (x : EntryId) : (s.modOrder o f).entry x = s.entry x := rfl
@[simp] theorem State.modOrder_seg? (o : Nat) (f : Order → Order) (x : ArmId) : (s.modOrder o f).seg? x = s.seg? x := rfl
@[simp] theorem State.modOrder_permit? (o : Nat) (f : Order → Order) (c' : Nat) : (s.modOrder o f).permit? c' = s.permit? c' := rfl

@[simp] theorem State.modLine_permits (o c : Nat) (f : Line → Line) : (s.modLine o c f).permits = s.permits := rfl
@[simp] theorem State.modLine_referrals (o c : Nat) (f : Line → Line) : (s.modLine o c f).referrals = s.referrals := rfl
@[simp] theorem State.modLine_bays (o c : Nat) (f : Line → Line) : (s.modLine o c f).bays = s.bays := rfl
@[simp] theorem State.modLine_arms (o c : Nat) (f : Line → Line) : (s.modLine o c f).arms = s.arms := rfl
@[simp] theorem State.modLine_cache (o c : Nat) (f : Line → Line) : (s.modLine o c f).cache = s.cache := rfl
@[simp] theorem State.modLine_dosing (o c : Nat) (f : Line → Line) : (s.modLine o c f).dosing = s.dosing := rfl
@[simp] theorem State.modLine_notes (o c : Nat) (f : Line → Line) : (s.modLine o c f).notes = s.notes := rfl
@[simp] theorem State.modLine_clock (o c : Nat) (f : Line → Line) : (s.modLine o c f).clock = s.clock := rfl
@[simp] theorem State.modLine_att (o c : Nat) (f : Line → Line) : (s.modLine o c f).att = s.att := rfl
@[simp] theorem State.modLine_settings (o c : Nat) (f : Line → Line) : (s.modLine o c f).settings = s.settings := rfl
@[simp] theorem State.modLine_link (o c : Nat) (f : Line → Line) : (s.modLine o c f).link = s.link := rfl
@[simp] theorem State.modLine_outputs (o c : Nat) (f : Line → Line) : (s.modLine o c f).outputs = s.outputs := rfl
@[simp] theorem State.modLine_pending (o c : Nat) (f : Line → Line) : (s.modLine o c f).pending = s.pending := rfl
@[simp] theorem State.modLine_bay (o c : Nat) (f : Line → Line) (x : BayId) : (s.modLine o c f).bay x = s.bay x := rfl
@[simp] theorem State.modLine_arm (o c : Nat) (f : Line → Line) (x : ArmId) : (s.modLine o c f).arm x = s.arm x := rfl
@[simp] theorem State.modLine_injector (o c : Nat) (f : Line → Line) (x : InjId) : (s.modLine o c f).injector x = s.injector x := rfl
@[simp] theorem State.modLine_slot (o c : Nat) (f : Line → Line) (x : SlotId) : (s.modLine o c f).slot x = s.slot x := rfl
@[simp] theorem State.modLine_entry (o c : Nat) (f : Line → Line) (x : EntryId) : (s.modLine o c f).entry x = s.entry x := rfl
@[simp] theorem State.modLine_seg? (o c : Nat) (f : Line → Line) (x : ArmId) : (s.modLine o c f).seg? x = s.seg? x := rfl
@[simp] theorem State.modLine_permit? (o c : Nat) (f : Line → Line) (c' : Nat) : (s.modLine o c f).permit? c' = s.permit? c' := rfl

@[simp] theorem State.removeOrder_permits (o : Nat) : (s.removeOrder o).permits = s.permits := rfl
@[simp] theorem State.removeOrder_referrals (o : Nat) : (s.removeOrder o).referrals = s.referrals := rfl
@[simp] theorem State.removeOrder_bays (o : Nat) : (s.removeOrder o).bays = s.bays := rfl
@[simp] theorem State.removeOrder_arms (o : Nat) : (s.removeOrder o).arms = s.arms := rfl
@[simp] theorem State.removeOrder_cache (o : Nat) : (s.removeOrder o).cache = s.cache := rfl
@[simp] theorem State.removeOrder_dosing (o : Nat) : (s.removeOrder o).dosing = s.dosing := rfl
@[simp] theorem State.removeOrder_notes (o : Nat) : (s.removeOrder o).notes = s.notes := rfl
@[simp] theorem State.removeOrder_clock (o : Nat) : (s.removeOrder o).clock = s.clock := rfl
@[simp] theorem State.removeOrder_att (o : Nat) : (s.removeOrder o).att = s.att := rfl
@[simp] theorem State.removeOrder_settings (o : Nat) : (s.removeOrder o).settings = s.settings := rfl
@[simp] theorem State.removeOrder_link (o : Nat) : (s.removeOrder o).link = s.link := rfl
@[simp] theorem State.removeOrder_outputs (o : Nat) : (s.removeOrder o).outputs = s.outputs := rfl
@[simp] theorem State.removeOrder_pending (o : Nat) : (s.removeOrder o).pending = s.pending := rfl
@[simp] theorem State.removeOrder_bay (o : Nat) (x : BayId) : (s.removeOrder o).bay x = s.bay x := rfl
@[simp] theorem State.removeOrder_arm (o : Nat) (x : ArmId) : (s.removeOrder o).arm x = s.arm x := rfl
@[simp] theorem State.removeOrder_injector (o : Nat) (x : InjId) : (s.removeOrder o).injector x = s.injector x := rfl
@[simp] theorem State.removeOrder_slot (o : Nat) (x : SlotId) : (s.removeOrder o).slot x = s.slot x := rfl
@[simp] theorem State.removeOrder_entry (o : Nat) (x : EntryId) : (s.removeOrder o).entry x = s.entry x := rfl
@[simp] theorem State.removeOrder_seg? (o : Nat) (x : ArmId) : (s.removeOrder o).seg? x = s.seg? x := rfl
@[simp] theorem State.removeOrder_permit? (o : Nat) (c' : Nat) : (s.removeOrder o).permit? c' = s.permit? c' := rfl

@[simp] theorem State.setQueue_permits (c : Nat) (q : List Waiter) : (s.setQueue c q).permits = s.permits := rfl
@[simp] theorem State.setQueue_orders (c : Nat) (q : List Waiter) : (s.setQueue c q).orders = s.orders := rfl
@[simp] theorem State.setQueue_referrals (c : Nat) (q : List Waiter) : (s.setQueue c q).referrals = s.referrals := rfl
@[simp] theorem State.setQueue_bays (c : Nat) (q : List Waiter) : (s.setQueue c q).bays = s.bays := rfl
@[simp] theorem State.setQueue_arms (c : Nat) (q : List Waiter) : (s.setQueue c q).arms = s.arms := rfl
@[simp] theorem State.setQueue_cache (c : Nat) (q : List Waiter) : (s.setQueue c q).cache = s.cache := rfl
@[simp] theorem State.setQueue_notes (c : Nat) (q : List Waiter) : (s.setQueue c q).notes = s.notes := rfl
@[simp] theorem State.setQueue_clock (c : Nat) (q : List Waiter) : (s.setQueue c q).clock = s.clock := rfl
@[simp] theorem State.setQueue_att (c : Nat) (q : List Waiter) : (s.setQueue c q).att = s.att := rfl
@[simp] theorem State.setQueue_settings (c : Nat) (q : List Waiter) : (s.setQueue c q).settings = s.settings := rfl
@[simp] theorem State.setQueue_link (c : Nat) (q : List Waiter) : (s.setQueue c q).link = s.link := rfl
@[simp] theorem State.setQueue_outputs (c : Nat) (q : List Waiter) : (s.setQueue c q).outputs = s.outputs := rfl
@[simp] theorem State.setQueue_pending (c : Nat) (q : List Waiter) : (s.setQueue c q).pending = s.pending := rfl
@[simp] theorem State.setQueue_bay (c : Nat) (q : List Waiter) (x : BayId) : (s.setQueue c q).bay x = s.bay x := rfl
@[simp] theorem State.setQueue_arm (c : Nat) (q : List Waiter) (x : ArmId) : (s.setQueue c q).arm x = s.arm x := rfl
@[simp] theorem State.setQueue_slot (c : Nat) (q : List Waiter) (x : SlotId) : (s.setQueue c q).slot x = s.slot x := rfl
@[simp] theorem State.setQueue_entry (c : Nat) (q : List Waiter) (x : EntryId) : (s.setQueue c q).entry x = s.entry x := rfl
@[simp] theorem State.setQueue_seg? (c : Nat) (q : List Waiter) (x : ArmId) : (s.setQueue c q).seg? x = s.seg? x := rfl
@[simp] theorem State.setQueue_permit? (c : Nat) (q : List Waiter) (c' : Nat) : (s.setQueue c q).permit? c' = s.permit? c' := rfl
@[simp] theorem State.setQueue_order? (c : Nat) (q : List Waiter) (n : Nat) : (s.setQueue c q).order? n = s.order? n := rfl

@[simp] theorem State.leaveQueues_permits (a : ArmId) : (s.leaveQueues a).permits = s.permits := rfl
@[simp] theorem State.leaveQueues_orders (a : ArmId) : (s.leaveQueues a).orders = s.orders := rfl
@[simp] theorem State.leaveQueues_referrals (a : ArmId) : (s.leaveQueues a).referrals = s.referrals := rfl
@[simp] theorem State.leaveQueues_bays (a : ArmId) : (s.leaveQueues a).bays = s.bays := rfl
@[simp] theorem State.leaveQueues_arms (a : ArmId) : (s.leaveQueues a).arms = s.arms := rfl
@[simp] theorem State.leaveQueues_cache (a : ArmId) : (s.leaveQueues a).cache = s.cache := rfl
@[simp] theorem State.leaveQueues_notes (a : ArmId) : (s.leaveQueues a).notes = s.notes := rfl
@[simp] theorem State.leaveQueues_clock (a : ArmId) : (s.leaveQueues a).clock = s.clock := rfl
@[simp] theorem State.leaveQueues_att (a : ArmId) : (s.leaveQueues a).att = s.att := rfl
@[simp] theorem State.leaveQueues_settings (a : ArmId) : (s.leaveQueues a).settings = s.settings := rfl
@[simp] theorem State.leaveQueues_link (a : ArmId) : (s.leaveQueues a).link = s.link := rfl
@[simp] theorem State.leaveQueues_outputs (a : ArmId) : (s.leaveQueues a).outputs = s.outputs := rfl
@[simp] theorem State.leaveQueues_pending (a : ArmId) : (s.leaveQueues a).pending = s.pending := rfl
@[simp] theorem State.leaveQueues_bay (a : ArmId) (x : BayId) : (s.leaveQueues a).bay x = s.bay x := rfl
@[simp] theorem State.leaveQueues_arm (a : ArmId) (x : ArmId) : (s.leaveQueues a).arm x = s.arm x := rfl
@[simp] theorem State.leaveQueues_slot (a : ArmId) (x : SlotId) : (s.leaveQueues a).slot x = s.slot x := rfl
@[simp] theorem State.leaveQueues_entry (a : ArmId) (x : EntryId) : (s.leaveQueues a).entry x = s.entry x := rfl
@[simp] theorem State.leaveQueues_seg? (a : ArmId) (x : ArmId) : (s.leaveQueues a).seg? x = s.seg? x := rfl
@[simp] theorem State.leaveQueues_permit? (a : ArmId) (c' : Nat) : (s.leaveQueues a).permit? c' = s.permit? c' := rfl
@[simp] theorem State.leaveQueues_order? (a : ArmId) (n : Nat) : (s.leaveQueues a).order? n = s.order? n := rfl

@[simp] theorem State.countSeal_permits : (s.countSeal).permits = s.permits := rfl
@[simp] theorem State.countSeal_orders : (s.countSeal).orders = s.orders := rfl
@[simp] theorem State.countSeal_referrals : (s.countSeal).referrals = s.referrals := rfl
@[simp] theorem State.countSeal_bays : (s.countSeal).bays = s.bays := rfl
@[simp] theorem State.countSeal_arms : (s.countSeal).arms = s.arms := rfl
@[simp] theorem State.countSeal_cache : (s.countSeal).cache = s.cache := rfl
@[simp] theorem State.countSeal_dosing : (s.countSeal).dosing = s.dosing := rfl
@[simp] theorem State.countSeal_notes : (s.countSeal).notes = s.notes := rfl
@[simp] theorem State.countSeal_clock : (s.countSeal).clock = s.clock := rfl
@[simp] theorem State.countSeal_att : (s.countSeal).att = s.att := rfl
@[simp] theorem State.countSeal_link : (s.countSeal).link = s.link := rfl
@[simp] theorem State.countSeal_outputs : (s.countSeal).outputs = s.outputs := rfl
@[simp] theorem State.countSeal_pending : (s.countSeal).pending = s.pending := rfl
@[simp] theorem State.countSeal_bay (x : BayId) : (s.countSeal).bay x = s.bay x := rfl
@[simp] theorem State.countSeal_arm (x : ArmId) : (s.countSeal).arm x = s.arm x := rfl
@[simp] theorem State.countSeal_injector (x : InjId) : (s.countSeal).injector x = s.injector x := rfl
@[simp] theorem State.countSeal_slot (x : SlotId) : (s.countSeal).slot x = s.slot x := rfl
@[simp] theorem State.countSeal_entry (x : EntryId) : (s.countSeal).entry x = s.entry x := rfl
@[simp] theorem State.countSeal_seg? (x : ArmId) : (s.countSeal).seg? x = s.seg? x := rfl
@[simp] theorem State.countSeal_permit? (c' : Nat) : (s.countSeal).permit? c' = s.permit? c' := rfl
@[simp] theorem State.countSeal_order? (n : Nat) : (s.countSeal).order? n = s.order? n := rfl

@[simp] theorem State.respond_permits (f : Frame) (r : Answer) : (s.respond f r).permits = s.permits := rfl
@[simp] theorem State.respond_orders (f : Frame) (r : Answer) : (s.respond f r).orders = s.orders := rfl
@[simp] theorem State.respond_referrals (f : Frame) (r : Answer) : (s.respond f r).referrals = s.referrals := rfl
@[simp] theorem State.respond_bays (f : Frame) (r : Answer) : (s.respond f r).bays = s.bays := rfl
@[simp] theorem State.respond_arms (f : Frame) (r : Answer) : (s.respond f r).arms = s.arms := rfl
@[simp] theorem State.respond_cache (f : Frame) (r : Answer) : (s.respond f r).cache = s.cache := rfl
@[simp] theorem State.respond_dosing (f : Frame) (r : Answer) : (s.respond f r).dosing = s.dosing := rfl
@[simp] theorem State.respond_notes (f : Frame) (r : Answer) : (s.respond f r).notes = s.notes := rfl
@[simp] theorem State.respond_clock (f : Frame) (r : Answer) : (s.respond f r).clock = s.clock := rfl
@[simp] theorem State.respond_att (f : Frame) (r : Answer) : (s.respond f r).att = s.att := rfl
@[simp] theorem State.respond_settings (f : Frame) (r : Answer) : (s.respond f r).settings = s.settings := rfl
@[simp] theorem State.respond_outputs (f : Frame) (r : Answer) : (s.respond f r).outputs = s.outputs := rfl
@[simp] theorem State.respond_pending (f : Frame) (r : Answer) : (s.respond f r).pending = s.pending := rfl
@[simp] theorem State.respond_bay (f : Frame) (r : Answer) (x : BayId) : (s.respond f r).bay x = s.bay x := rfl
@[simp] theorem State.respond_arm (f : Frame) (r : Answer) (x : ArmId) : (s.respond f r).arm x = s.arm x := rfl
@[simp] theorem State.respond_injector (f : Frame) (r : Answer) (x : InjId) : (s.respond f r).injector x = s.injector x := rfl
@[simp] theorem State.respond_slot (f : Frame) (r : Answer) (x : SlotId) : (s.respond f r).slot x = s.slot x := rfl
@[simp] theorem State.respond_entry (f : Frame) (r : Answer) (x : EntryId) : (s.respond f r).entry x = s.entry x := rfl
@[simp] theorem State.respond_seg? (f : Frame) (r : Answer) (x : ArmId) : (s.respond f r).seg? x = s.seg? x := rfl
@[simp] theorem State.respond_permit? (f : Frame) (r : Answer) (c' : Nat) : (s.respond f r).permit? c' = s.permit? c' := rfl
@[simp] theorem State.respond_order? (f : Frame) (r : Answer) (n : Nat) : (s.respond f r).order? n = s.order? n := rfl

@[simp] theorem State.emit_permits (o : Output) : (s.emit o).permits = s.permits := rfl
@[simp] theorem State.emit_orders (o : Output) : (s.emit o).orders = s.orders := rfl
@[simp] theorem State.emit_referrals (o : Output) : (s.emit o).referrals = s.referrals := rfl
@[simp] theorem State.emit_bays (o : Output) : (s.emit o).bays = s.bays := rfl
@[simp] theorem State.emit_arms (o : Output) : (s.emit o).arms = s.arms := rfl
@[simp] theorem State.emit_cache (o : Output) : (s.emit o).cache = s.cache := rfl
@[simp] theorem State.emit_dosing (o : Output) : (s.emit o).dosing = s.dosing := rfl
@[simp] theorem State.emit_notes (o : Output) : (s.emit o).notes = s.notes := rfl
@[simp] theorem State.emit_clock (o : Output) : (s.emit o).clock = s.clock := rfl
@[simp] theorem State.emit_att (o : Output) : (s.emit o).att = s.att := rfl
@[simp] theorem State.emit_settings (o : Output) : (s.emit o).settings = s.settings := rfl
@[simp] theorem State.emit_link (o : Output) : (s.emit o).link = s.link := rfl
@[simp] theorem State.emit_pending (o : Output) : (s.emit o).pending = s.pending := rfl
@[simp] theorem State.emit_bay (o : Output) (x : BayId) : (s.emit o).bay x = s.bay x := rfl
@[simp] theorem State.emit_arm (o : Output) (x : ArmId) : (s.emit o).arm x = s.arm x := rfl
@[simp] theorem State.emit_injector (o : Output) (x : InjId) : (s.emit o).injector x = s.injector x := rfl
@[simp] theorem State.emit_slot (o : Output) (x : SlotId) : (s.emit o).slot x = s.slot x := rfl
@[simp] theorem State.emit_entry (o : Output) (x : EntryId) : (s.emit o).entry x = s.entry x := rfl
@[simp] theorem State.emit_seg? (o : Output) (x : ArmId) : (s.emit o).seg? x = s.seg? x := rfl
@[simp] theorem State.emit_permit? (o : Output) (c' : Nat) : (s.emit o).permit? c' = s.permit? c' := rfl
@[simp] theorem State.emit_order? (o : Output) (n : Nat) : (s.emit o).order? n = s.order? n := rfl

@[simp] theorem State.mark_permits (src : Source) : (s.mark src).permits = s.permits := rfl
@[simp] theorem State.mark_orders (src : Source) : (s.mark src).orders = s.orders := rfl
@[simp] theorem State.mark_referrals (src : Source) : (s.mark src).referrals = s.referrals := rfl
@[simp] theorem State.mark_bays (src : Source) : (s.mark src).bays = s.bays := rfl
@[simp] theorem State.mark_arms (src : Source) : (s.mark src).arms = s.arms := rfl
@[simp] theorem State.mark_cache (src : Source) : (s.mark src).cache = s.cache := rfl
@[simp] theorem State.mark_dosing (src : Source) : (s.mark src).dosing = s.dosing := rfl
@[simp] theorem State.mark_notes (src : Source) : (s.mark src).notes = s.notes := rfl
@[simp] theorem State.mark_clock (src : Source) : (s.mark src).clock = s.clock := rfl
@[simp] theorem State.mark_settings (src : Source) : (s.mark src).settings = s.settings := rfl
@[simp] theorem State.mark_link (src : Source) : (s.mark src).link = s.link := rfl
@[simp] theorem State.mark_outputs (src : Source) : (s.mark src).outputs = s.outputs := rfl
@[simp] theorem State.mark_pending (src : Source) : (s.mark src).pending = s.pending := rfl
@[simp] theorem State.mark_bay (src : Source) (x : BayId) : (s.mark src).bay x = s.bay x := rfl
@[simp] theorem State.mark_arm (src : Source) (x : ArmId) : (s.mark src).arm x = s.arm x := rfl
@[simp] theorem State.mark_injector (src : Source) (x : InjId) : (s.mark src).injector x = s.injector x := rfl
@[simp] theorem State.mark_slot (src : Source) (x : SlotId) : (s.mark src).slot x = s.slot x := rfl
@[simp] theorem State.mark_entry (src : Source) (x : EntryId) : (s.mark src).entry x = s.entry x := rfl
@[simp] theorem State.mark_seg? (src : Source) (x : ArmId) : (s.mark src).seg? x = s.seg? x := rfl
@[simp] theorem State.mark_permit? (src : Source) (c' : Nat) : (s.mark src).permit? c' = s.permit? c' := rfl
@[simp] theorem State.mark_order? (src : Source) (n : Nat) : (s.mark src).order? n = s.order? n := rfl

@[simp] theorem State.armOccurrence_permits (a : ArmId) (f : Occurrences → Occurrences) : (s.armOccurrence a f).permits = s.permits := rfl
@[simp] theorem State.armOccurrence_orders (a : ArmId) (f : Occurrences → Occurrences) : (s.armOccurrence a f).orders = s.orders := rfl
@[simp] theorem State.armOccurrence_referrals (a : ArmId) (f : Occurrences → Occurrences) : (s.armOccurrence a f).referrals = s.referrals := rfl
@[simp] theorem State.armOccurrence_bays (a : ArmId) (f : Occurrences → Occurrences) : (s.armOccurrence a f).bays = s.bays := rfl
@[simp] theorem State.armOccurrence_arms (a : ArmId) (f : Occurrences → Occurrences) : (s.armOccurrence a f).arms = s.arms := rfl
@[simp] theorem State.armOccurrence_cache (a : ArmId) (f : Occurrences → Occurrences) : (s.armOccurrence a f).cache = s.cache := rfl
@[simp] theorem State.armOccurrence_dosing (a : ArmId) (f : Occurrences → Occurrences) : (s.armOccurrence a f).dosing = s.dosing := rfl
@[simp] theorem State.armOccurrence_notes (a : ArmId) (f : Occurrences → Occurrences) : (s.armOccurrence a f).notes = s.notes := rfl
@[simp] theorem State.armOccurrence_clock (a : ArmId) (f : Occurrences → Occurrences) : (s.armOccurrence a f).clock = s.clock := rfl
@[simp] theorem State.armOccurrence_settings (a : ArmId) (f : Occurrences → Occurrences) : (s.armOccurrence a f).settings = s.settings := rfl
@[simp] theorem State.armOccurrence_link (a : ArmId) (f : Occurrences → Occurrences) : (s.armOccurrence a f).link = s.link := rfl
@[simp] theorem State.armOccurrence_outputs (a : ArmId) (f : Occurrences → Occurrences) : (s.armOccurrence a f).outputs = s.outputs := rfl
@[simp] theorem State.armOccurrence_pending (a : ArmId) (f : Occurrences → Occurrences) : (s.armOccurrence a f).pending = s.pending := rfl
@[simp] theorem State.armOccurrence_bay (a : ArmId) (f : Occurrences → Occurrences) (x : BayId) : (s.armOccurrence a f).bay x = s.bay x := rfl
@[simp] theorem State.armOccurrence_arm (a : ArmId) (f : Occurrences → Occurrences) (x : ArmId) : (s.armOccurrence a f).arm x = s.arm x := rfl
@[simp] theorem State.armOccurrence_injector (a : ArmId) (f : Occurrences → Occurrences) (x : InjId) : (s.armOccurrence a f).injector x = s.injector x := rfl
@[simp] theorem State.armOccurrence_slot (a : ArmId) (f : Occurrences → Occurrences) (x : SlotId) : (s.armOccurrence a f).slot x = s.slot x := rfl
@[simp] theorem State.armOccurrence_entry (a : ArmId) (f : Occurrences → Occurrences) (x : EntryId) : (s.armOccurrence a f).entry x = s.entry x := rfl
@[simp] theorem State.armOccurrence_seg? (a : ArmId) (f : Occurrences → Occurrences) (x : ArmId) : (s.armOccurrence a f).seg? x = s.seg? x := rfl
@[simp] theorem State.armOccurrence_permit? (a : ArmId) (f : Occurrences → Occurrences) (c' : Nat) : (s.armOccurrence a f).permit? c' = s.permit? c' := rfl
@[simp] theorem State.armOccurrence_order? (a : ArmId) (f : Occurrences → Occurrences) (n : Nat) : (s.armOccurrence a f).order? n = s.order? n := rfl

@[simp] theorem State.levelChange_permits (src : Source) (e : Edge) (p q : Bool) : (s.levelChange src e p q).permits = s.permits := by unfold State.levelChange; split <;> rfl
@[simp] theorem State.levelChange_orders (src : Source) (e : Edge) (p q : Bool) : (s.levelChange src e p q).orders = s.orders := by unfold State.levelChange; split <;> rfl
@[simp] theorem State.levelChange_referrals (src : Source) (e : Edge) (p q : Bool) : (s.levelChange src e p q).referrals = s.referrals := by unfold State.levelChange; split <;> rfl
@[simp] theorem State.levelChange_bays (src : Source) (e : Edge) (p q : Bool) : (s.levelChange src e p q).bays = s.bays := by unfold State.levelChange; split <;> rfl
@[simp] theorem State.levelChange_arms (src : Source) (e : Edge) (p q : Bool) : (s.levelChange src e p q).arms = s.arms := by unfold State.levelChange; split <;> rfl
@[simp] theorem State.levelChange_cache (src : Source) (e : Edge) (p q : Bool) : (s.levelChange src e p q).cache = s.cache := by unfold State.levelChange; split <;> rfl
@[simp] theorem State.levelChange_dosing (src : Source) (e : Edge) (p q : Bool) : (s.levelChange src e p q).dosing = s.dosing := by unfold State.levelChange; split <;> rfl
@[simp] theorem State.levelChange_notes (src : Source) (e : Edge) (p q : Bool) : (s.levelChange src e p q).notes = s.notes := by unfold State.levelChange; split <;> rfl
@[simp] theorem State.levelChange_clock (src : Source) (e : Edge) (p q : Bool) : (s.levelChange src e p q).clock = s.clock := by unfold State.levelChange; split <;> rfl
@[simp] theorem State.levelChange_settings (src : Source) (e : Edge) (p q : Bool) : (s.levelChange src e p q).settings = s.settings := by unfold State.levelChange; split <;> rfl
@[simp] theorem State.levelChange_link (src : Source) (e : Edge) (p q : Bool) : (s.levelChange src e p q).link = s.link := by unfold State.levelChange; split <;> rfl
@[simp] theorem State.levelChange_outputs (src : Source) (e : Edge) (p q : Bool) : (s.levelChange src e p q).outputs = s.outputs := by unfold State.levelChange; split <;> rfl
@[simp] theorem State.levelChange_pending (src : Source) (e : Edge) (p q : Bool) : (s.levelChange src e p q).pending = s.pending := by unfold State.levelChange; split <;> rfl
@[simp] theorem State.levelChange_bay (src : Source) (e : Edge) (p q : Bool) (x : BayId) : (s.levelChange src e p q).bay x = s.bay x := by simp [State.bay]
@[simp] theorem State.levelChange_arm (src : Source) (e : Edge) (p q : Bool) (x : ArmId) : (s.levelChange src e p q).arm x = s.arm x := by simp [State.arm]
@[simp] theorem State.levelChange_injector (src : Source) (e : Edge) (p q : Bool) (x : InjId) : (s.levelChange src e p q).injector x = s.injector x := by simp [State.injector]
@[simp] theorem State.levelChange_slot (src : Source) (e : Edge) (p q : Bool) (x : SlotId) : (s.levelChange src e p q).slot x = s.slot x := by simp [State.slot]
@[simp] theorem State.levelChange_entry (src : Source) (e : Edge) (p q : Bool) (x : EntryId) : (s.levelChange src e p q).entry x = s.entry x := by simp [State.entry]
@[simp] theorem State.levelChange_seg? (src : Source) (e : Edge) (p q : Bool) (x : ArmId) : (s.levelChange src e p q).seg? x = s.seg? x := by simp [State.seg?, State.arm]
@[simp] theorem State.levelChange_permit? (src : Source) (e : Edge) (p q : Bool) (c' : Nat) : (s.levelChange src e p q).permit? c' = s.permit? c' := by simp [State.permit?]
@[simp] theorem State.levelChange_order? (src : Source) (e : Edge) (p q : Bool) (n : Nat) : (s.levelChange src e p q).order? n = s.order? n := by simp [State.order?]

@[simp] theorem State.setBayState_permits (b : BayId) (v : BayState) : (s.setBayState b v).permits = s.permits := by unfold State.setBayState; dsimp only; split_ifs <;> simp
@[simp] theorem State.setBayState_orders (b : BayId) (v : BayState) : (s.setBayState b v).orders = s.orders := by unfold State.setBayState; dsimp only; split_ifs <;> simp
@[simp] theorem State.setBayState_referrals (b : BayId) (v : BayState) : (s.setBayState b v).referrals = s.referrals := by unfold State.setBayState; dsimp only; split_ifs <;> simp
@[simp] theorem State.setBayState_arms (b : BayId) (v : BayState) : (s.setBayState b v).arms = s.arms := by unfold State.setBayState; dsimp only; split_ifs <;> simp
@[simp] theorem State.setBayState_cache (b : BayId) (v : BayState) : (s.setBayState b v).cache = s.cache := by unfold State.setBayState; dsimp only; split_ifs <;> simp
@[simp] theorem State.setBayState_dosing (b : BayId) (v : BayState) : (s.setBayState b v).dosing = s.dosing := by unfold State.setBayState; dsimp only; split_ifs <;> simp
@[simp] theorem State.setBayState_notes (b : BayId) (v : BayState) : (s.setBayState b v).notes = s.notes := by unfold State.setBayState; dsimp only; split_ifs <;> simp
@[simp] theorem State.setBayState_clock (b : BayId) (v : BayState) : (s.setBayState b v).clock = s.clock := by unfold State.setBayState; dsimp only; split_ifs <;> simp
@[simp] theorem State.setBayState_settings (b : BayId) (v : BayState) : (s.setBayState b v).settings = s.settings := by unfold State.setBayState; dsimp only; split_ifs <;> simp
@[simp] theorem State.setBayState_link (b : BayId) (v : BayState) : (s.setBayState b v).link = s.link := by unfold State.setBayState; dsimp only; split_ifs <;> simp
@[simp] theorem State.setBayState_outputs (b : BayId) (v : BayState) : (s.setBayState b v).outputs = s.outputs := by unfold State.setBayState; dsimp only; split_ifs <;> simp
@[simp] theorem State.setBayState_pending (b : BayId) (v : BayState) : (s.setBayState b v).pending = s.pending := by unfold State.setBayState; dsimp only; split_ifs <;> simp
@[simp] theorem State.setBayState_arm (b : BayId) (v : BayState) (x : ArmId) : (s.setBayState b v).arm x = s.arm x := by simp [State.arm]
@[simp] theorem State.setBayState_injector (b : BayId) (v : BayState) (x : InjId) : (s.setBayState b v).injector x = s.injector x := by simp [State.injector]
@[simp] theorem State.setBayState_slot (b : BayId) (v : BayState) (x : SlotId) : (s.setBayState b v).slot x = s.slot x := by simp [State.slot]
@[simp] theorem State.setBayState_entry (b : BayId) (v : BayState) (x : EntryId) : (s.setBayState b v).entry x = s.entry x := by simp [State.entry]
@[simp] theorem State.setBayState_seg? (b : BayId) (v : BayState) (x : ArmId) : (s.setBayState b v).seg? x = s.seg? x := by simp [State.seg?, State.arm]
@[simp] theorem State.setBayState_permit? (b : BayId) (v : BayState) (c' : Nat) : (s.setBayState b v).permit? c' = s.permit? c' := by simp [State.permit?]
@[simp] theorem State.setBayState_order? (b : BayId) (v : BayState) (n : Nat) : (s.setBayState b v).order? n = s.order? n := by simp [State.order?]

@[simp] theorem State.setInjectorState_permits (j : InjId) (v : InjectorState) : (s.setInjectorState j v).permits = s.permits := by simp [State.setInjectorState]
@[simp] theorem State.setInjectorState_orders (j : InjId) (v : InjectorState) : (s.setInjectorState j v).orders = s.orders := by simp [State.setInjectorState]
@[simp] theorem State.setInjectorState_referrals (j : InjId) (v : InjectorState) : (s.setInjectorState j v).referrals = s.referrals := by simp [State.setInjectorState]
@[simp] theorem State.setInjectorState_bays (j : InjId) (v : InjectorState) : (s.setInjectorState j v).bays = s.bays := by simp [State.setInjectorState]
@[simp] theorem State.setInjectorState_arms (j : InjId) (v : InjectorState) : (s.setInjectorState j v).arms = s.arms := by simp [State.setInjectorState]
@[simp] theorem State.setInjectorState_cache (j : InjId) (v : InjectorState) : (s.setInjectorState j v).cache = s.cache := by simp [State.setInjectorState]
@[simp] theorem State.setInjectorState_notes (j : InjId) (v : InjectorState) : (s.setInjectorState j v).notes = s.notes := by simp [State.setInjectorState]
@[simp] theorem State.setInjectorState_clock (j : InjId) (v : InjectorState) : (s.setInjectorState j v).clock = s.clock := by simp [State.setInjectorState]
@[simp] theorem State.setInjectorState_settings (j : InjId) (v : InjectorState) : (s.setInjectorState j v).settings = s.settings := by simp [State.setInjectorState]
@[simp] theorem State.setInjectorState_link (j : InjId) (v : InjectorState) : (s.setInjectorState j v).link = s.link := by simp [State.setInjectorState]
@[simp] theorem State.setInjectorState_outputs (j : InjId) (v : InjectorState) : (s.setInjectorState j v).outputs = s.outputs := by simp [State.setInjectorState]
@[simp] theorem State.setInjectorState_pending (j : InjId) (v : InjectorState) : (s.setInjectorState j v).pending = s.pending := by simp [State.setInjectorState]
@[simp] theorem State.setInjectorState_bay (j : InjId) (v : InjectorState) (x : BayId) : (s.setInjectorState j v).bay x = s.bay x := by simp [State.bay]
@[simp] theorem State.setInjectorState_arm (j : InjId) (v : InjectorState) (x : ArmId) : (s.setInjectorState j v).arm x = s.arm x := by simp [State.arm]
@[simp] theorem State.setInjectorState_slot (j : InjId) (v : InjectorState) (x : SlotId) : (s.setInjectorState j v).slot x = s.slot x := by simp [State.slot]
@[simp] theorem State.setInjectorState_entry (j : InjId) (v : InjectorState) (x : EntryId) : (s.setInjectorState j v).entry x = s.entry x := by simp [State.entry]
@[simp] theorem State.setInjectorState_seg? (j : InjId) (v : InjectorState) (x : ArmId) : (s.setInjectorState j v).seg? x = s.seg? x := by simp [State.seg?, State.arm]
@[simp] theorem State.setInjectorState_permit? (j : InjId) (v : InjectorState) (c' : Nat) : (s.setInjectorState j v).permit? c' = s.permit? c' := by simp [State.permit?]
@[simp] theorem State.setInjectorState_order? (j : InjId) (v : InjectorState) (n : Nat) : (s.setInjectorState j v).order? n = s.order? n := by simp [State.order?]

@[simp] theorem State.setArmStatus_permits (a : ArmId) (v : ArmStatus) : (s.setArmStatus a v).permits = s.permits := by simp [State.setArmStatus]
@[simp] theorem State.setArmStatus_orders (a : ArmId) (v : ArmStatus) : (s.setArmStatus a v).orders = s.orders := by simp [State.setArmStatus]
@[simp] theorem State.setArmStatus_referrals (a : ArmId) (v : ArmStatus) : (s.setArmStatus a v).referrals = s.referrals := by simp [State.setArmStatus]
@[simp] theorem State.setArmStatus_bays (a : ArmId) (v : ArmStatus) : (s.setArmStatus a v).bays = s.bays := by simp [State.setArmStatus]
@[simp] theorem State.setArmStatus_cache (a : ArmId) (v : ArmStatus) : (s.setArmStatus a v).cache = s.cache := by simp [State.setArmStatus]
@[simp] theorem State.setArmStatus_dosing (a : ArmId) (v : ArmStatus) : (s.setArmStatus a v).dosing = s.dosing := by simp [State.setArmStatus]
@[simp] theorem State.setArmStatus_notes (a : ArmId) (v : ArmStatus) : (s.setArmStatus a v).notes = s.notes := by simp [State.setArmStatus]
@[simp] theorem State.setArmStatus_clock (a : ArmId) (v : ArmStatus) : (s.setArmStatus a v).clock = s.clock := by simp [State.setArmStatus]
@[simp] theorem State.setArmStatus_settings (a : ArmId) (v : ArmStatus) : (s.setArmStatus a v).settings = s.settings := by simp [State.setArmStatus]
@[simp] theorem State.setArmStatus_link (a : ArmId) (v : ArmStatus) : (s.setArmStatus a v).link = s.link := by simp [State.setArmStatus]
@[simp] theorem State.setArmStatus_outputs (a : ArmId) (v : ArmStatus) : (s.setArmStatus a v).outputs = s.outputs := by simp [State.setArmStatus]
@[simp] theorem State.setArmStatus_pending (a : ArmId) (v : ArmStatus) : (s.setArmStatus a v).pending = s.pending := by simp [State.setArmStatus]
@[simp] theorem State.setArmStatus_bay (a : ArmId) (v : ArmStatus) (x : BayId) : (s.setArmStatus a v).bay x = s.bay x := by simp [State.bay]
@[simp] theorem State.setArmStatus_injector (a : ArmId) (v : ArmStatus) (x : InjId) : (s.setArmStatus a v).injector x = s.injector x := by simp [State.injector]
@[simp] theorem State.setArmStatus_slot (a : ArmId) (v : ArmStatus) (x : SlotId) : (s.setArmStatus a v).slot x = s.slot x := by simp [State.slot]
@[simp] theorem State.setArmStatus_entry (a : ArmId) (v : ArmStatus) (x : EntryId) : (s.setArmStatus a v).entry x = s.entry x := by simp [State.entry]
@[simp] theorem State.setArmStatus_permit? (a : ArmId) (v : ArmStatus) (c' : Nat) : (s.setArmStatus a v).permit? c' = s.permit? c' := by simp [State.permit?]
@[simp] theorem State.setArmStatus_order? (a : ArmId) (v : ArmStatus) (n : Nat) : (s.setArmStatus a v).order? n = s.order? n := by simp [State.order?]

@[simp] theorem State.occurEnded_permits (a : ArmId) : (s.occurEnded a).permits = s.permits := rfl
@[simp] theorem State.occurEnded_orders (a : ArmId) : (s.occurEnded a).orders = s.orders := rfl
@[simp] theorem State.occurEnded_referrals (a : ArmId) : (s.occurEnded a).referrals = s.referrals := rfl
@[simp] theorem State.occurEnded_bays (a : ArmId) : (s.occurEnded a).bays = s.bays := rfl
@[simp] theorem State.occurEnded_arms (a : ArmId) : (s.occurEnded a).arms = s.arms := rfl
@[simp] theorem State.occurEnded_cache (a : ArmId) : (s.occurEnded a).cache = s.cache := rfl
@[simp] theorem State.occurEnded_dosing (a : ArmId) : (s.occurEnded a).dosing = s.dosing := rfl
@[simp] theorem State.occurEnded_notes (a : ArmId) : (s.occurEnded a).notes = s.notes := rfl
@[simp] theorem State.occurEnded_clock (a : ArmId) : (s.occurEnded a).clock = s.clock := rfl
@[simp] theorem State.occurEnded_settings (a : ArmId) : (s.occurEnded a).settings = s.settings := rfl
@[simp] theorem State.occurEnded_link (a : ArmId) : (s.occurEnded a).link = s.link := rfl
@[simp] theorem State.occurEnded_outputs (a : ArmId) : (s.occurEnded a).outputs = s.outputs := rfl
@[simp] theorem State.occurEnded_pending (a : ArmId) : (s.occurEnded a).pending = s.pending := rfl
@[simp] theorem State.occurEnded_bay (a : ArmId) (x : BayId) : (s.occurEnded a).bay x = s.bay x := rfl
@[simp] theorem State.occurEnded_arm (a : ArmId) (x : ArmId) : (s.occurEnded a).arm x = s.arm x := rfl
@[simp] theorem State.occurEnded_injector (a : ArmId) (x : InjId) : (s.occurEnded a).injector x = s.injector x := rfl
@[simp] theorem State.occurEnded_slot (a : ArmId) (x : SlotId) : (s.occurEnded a).slot x = s.slot x := rfl
@[simp] theorem State.occurEnded_entry (a : ArmId) (x : EntryId) : (s.occurEnded a).entry x = s.entry x := rfl
@[simp] theorem State.occurEnded_seg? (a : ArmId) (x : ArmId) : (s.occurEnded a).seg? x = s.seg? x := rfl
@[simp] theorem State.occurEnded_permit? (a : ArmId) (c' : Nat) : (s.occurEnded a).permit? c' = s.permit? c' := rfl
@[simp] theorem State.occurEnded_order? (a : ArmId) (n : Nat) : (s.occurEnded a).order? n = s.order? n := rfl

@[simp] theorem State.occurReleased_permits (a : ArmId) : (s.occurReleased a).permits = s.permits := rfl
@[simp] theorem State.occurReleased_orders (a : ArmId) : (s.occurReleased a).orders = s.orders := rfl
@[simp] theorem State.occurReleased_referrals (a : ArmId) : (s.occurReleased a).referrals = s.referrals := rfl
@[simp] theorem State.occurReleased_bays (a : ArmId) : (s.occurReleased a).bays = s.bays := rfl
@[simp] theorem State.occurReleased_arms (a : ArmId) : (s.occurReleased a).arms = s.arms := rfl
@[simp] theorem State.occurReleased_cache (a : ArmId) : (s.occurReleased a).cache = s.cache := rfl
@[simp] theorem State.occurReleased_dosing (a : ArmId) : (s.occurReleased a).dosing = s.dosing := rfl
@[simp] theorem State.occurReleased_notes (a : ArmId) : (s.occurReleased a).notes = s.notes := rfl
@[simp] theorem State.occurReleased_clock (a : ArmId) : (s.occurReleased a).clock = s.clock := rfl
@[simp] theorem State.occurReleased_settings (a : ArmId) : (s.occurReleased a).settings = s.settings := rfl
@[simp] theorem State.occurReleased_link (a : ArmId) : (s.occurReleased a).link = s.link := rfl
@[simp] theorem State.occurReleased_outputs (a : ArmId) : (s.occurReleased a).outputs = s.outputs := rfl
@[simp] theorem State.occurReleased_pending (a : ArmId) : (s.occurReleased a).pending = s.pending := rfl
@[simp] theorem State.occurReleased_bay (a : ArmId) (x : BayId) : (s.occurReleased a).bay x = s.bay x := rfl
@[simp] theorem State.occurReleased_arm (a : ArmId) (x : ArmId) : (s.occurReleased a).arm x = s.arm x := rfl
@[simp] theorem State.occurReleased_injector (a : ArmId) (x : InjId) : (s.occurReleased a).injector x = s.injector x := rfl
@[simp] theorem State.occurReleased_slot (a : ArmId) (x : SlotId) : (s.occurReleased a).slot x = s.slot x := rfl
@[simp] theorem State.occurReleased_entry (a : ArmId) (x : EntryId) : (s.occurReleased a).entry x = s.entry x := rfl
@[simp] theorem State.occurReleased_seg? (a : ArmId) (x : ArmId) : (s.occurReleased a).seg? x = s.seg? x := rfl
@[simp] theorem State.occurReleased_permit? (a : ArmId) (c' : Nat) : (s.occurReleased a).permit? c' = s.permit? c' := rfl
@[simp] theorem State.occurReleased_order? (a : ArmId) (n : Nat) : (s.occurReleased a).order? n = s.order? n := rfl

@[simp] theorem State.occurBusy_permits (a : ArmId) (b : BayId) : (s.occurBusy a b).permits = s.permits := rfl
@[simp] theorem State.occurBusy_orders (a : ArmId) (b : BayId) : (s.occurBusy a b).orders = s.orders := rfl
@[simp] theorem State.occurBusy_referrals (a : ArmId) (b : BayId) : (s.occurBusy a b).referrals = s.referrals := rfl
@[simp] theorem State.occurBusy_bays (a : ArmId) (b : BayId) : (s.occurBusy a b).bays = s.bays := rfl
@[simp] theorem State.occurBusy_arms (a : ArmId) (b : BayId) : (s.occurBusy a b).arms = s.arms := rfl
@[simp] theorem State.occurBusy_cache (a : ArmId) (b : BayId) : (s.occurBusy a b).cache = s.cache := rfl
@[simp] theorem State.occurBusy_dosing (a : ArmId) (b : BayId) : (s.occurBusy a b).dosing = s.dosing := rfl
@[simp] theorem State.occurBusy_notes (a : ArmId) (b : BayId) : (s.occurBusy a b).notes = s.notes := rfl
@[simp] theorem State.occurBusy_clock (a : ArmId) (b : BayId) : (s.occurBusy a b).clock = s.clock := rfl
@[simp] theorem State.occurBusy_settings (a : ArmId) (b : BayId) : (s.occurBusy a b).settings = s.settings := rfl
@[simp] theorem State.occurBusy_link (a : ArmId) (b : BayId) : (s.occurBusy a b).link = s.link := rfl
@[simp] theorem State.occurBusy_outputs (a : ArmId) (b : BayId) : (s.occurBusy a b).outputs = s.outputs := rfl
@[simp] theorem State.occurBusy_pending (a : ArmId) (b : BayId) : (s.occurBusy a b).pending = s.pending := rfl
@[simp] theorem State.occurBusy_bay (a : ArmId) (b : BayId) (x : BayId) : (s.occurBusy a b).bay x = s.bay x := rfl
@[simp] theorem State.occurBusy_arm (a : ArmId) (b : BayId) (x : ArmId) : (s.occurBusy a b).arm x = s.arm x := rfl
@[simp] theorem State.occurBusy_injector (a : ArmId) (b : BayId) (x : InjId) : (s.occurBusy a b).injector x = s.injector x := rfl
@[simp] theorem State.occurBusy_slot (a : ArmId) (b : BayId) (x : SlotId) : (s.occurBusy a b).slot x = s.slot x := rfl
@[simp] theorem State.occurBusy_entry (a : ArmId) (b : BayId) (x : EntryId) : (s.occurBusy a b).entry x = s.entry x := rfl
@[simp] theorem State.occurBusy_seg? (a : ArmId) (b : BayId) (x : ArmId) : (s.occurBusy a b).seg? x = s.seg? x := rfl
@[simp] theorem State.occurBusy_permit? (a : ArmId) (b : BayId) (c' : Nat) : (s.occurBusy a b).permit? c' = s.permit? c' := rfl
@[simp] theorem State.occurBusy_order? (a : ArmId) (b : BayId) (n : Nat) : (s.occurBusy a b).order? n = s.order? n := rfl

@[simp] theorem State.clearClaim_permits (a : ArmId) : (s.clearClaim a).permits = s.permits := rfl
@[simp] theorem State.clearClaim_orders (a : ArmId) : (s.clearClaim a).orders = s.orders := rfl
@[simp] theorem State.clearClaim_referrals (a : ArmId) : (s.clearClaim a).referrals = s.referrals := rfl
@[simp] theorem State.clearClaim_bays (a : ArmId) : (s.clearClaim a).bays = s.bays := rfl
@[simp] theorem State.clearClaim_cache (a : ArmId) : (s.clearClaim a).cache = s.cache := rfl
@[simp] theorem State.clearClaim_dosing (a : ArmId) : (s.clearClaim a).dosing = s.dosing := rfl
@[simp] theorem State.clearClaim_notes (a : ArmId) : (s.clearClaim a).notes = s.notes := rfl
@[simp] theorem State.clearClaim_clock (a : ArmId) : (s.clearClaim a).clock = s.clock := rfl
@[simp] theorem State.clearClaim_settings (a : ArmId) : (s.clearClaim a).settings = s.settings := rfl
@[simp] theorem State.clearClaim_link (a : ArmId) : (s.clearClaim a).link = s.link := rfl
@[simp] theorem State.clearClaim_outputs (a : ArmId) : (s.clearClaim a).outputs = s.outputs := rfl
@[simp] theorem State.clearClaim_pending (a : ArmId) : (s.clearClaim a).pending = s.pending := rfl
@[simp] theorem State.clearClaim_bay (a : ArmId) (x : BayId) : (s.clearClaim a).bay x = s.bay x := rfl
@[simp] theorem State.clearClaim_injector (a : ArmId) (x : InjId) : (s.clearClaim a).injector x = s.injector x := rfl
@[simp] theorem State.clearClaim_slot (a : ArmId) (x : SlotId) : (s.clearClaim a).slot x = s.slot x := rfl
@[simp] theorem State.clearClaim_entry (a : ArmId) (x : EntryId) : (s.clearClaim a).entry x = s.entry x := rfl
@[simp] theorem State.clearClaim_permit? (a : ArmId) (c' : Nat) : (s.clearClaim a).permit? c' = s.permit? c' := rfl
@[simp] theorem State.clearClaim_order? (a : ArmId) (n : Nat) : (s.clearClaim a).order? n = s.order? n := rfl

@[simp] theorem State.releaseArm_permits (a : ArmId) : (s.releaseArm a).permits = s.permits := by simp [State.releaseArm]
@[simp] theorem State.releaseArm_orders (a : ArmId) : (s.releaseArm a).orders = s.orders := by simp [State.releaseArm]
@[simp] theorem State.releaseArm_referrals (a : ArmId) : (s.releaseArm a).referrals = s.referrals := by simp [State.releaseArm]
@[simp] theorem State.releaseArm_bays (a : ArmId) : (s.releaseArm a).bays = s.bays := by simp [State.releaseArm]
@[simp] theorem State.releaseArm_cache (a : ArmId) : (s.releaseArm a).cache = s.cache := by simp [State.releaseArm]
@[simp] theorem State.releaseArm_dosing (a : ArmId) : (s.releaseArm a).dosing = s.dosing := by simp [State.releaseArm]
@[simp] theorem State.releaseArm_notes (a : ArmId) : (s.releaseArm a).notes = s.notes := by simp [State.releaseArm]
@[simp] theorem State.releaseArm_clock (a : ArmId) : (s.releaseArm a).clock = s.clock := by simp [State.releaseArm]
@[simp] theorem State.releaseArm_settings (a : ArmId) : (s.releaseArm a).settings = s.settings := by simp [State.releaseArm]
@[simp] theorem State.releaseArm_link (a : ArmId) : (s.releaseArm a).link = s.link := by simp [State.releaseArm]
@[simp] theorem State.releaseArm_outputs (a : ArmId) : (s.releaseArm a).outputs = s.outputs := by simp [State.releaseArm]
@[simp] theorem State.releaseArm_pending (a : ArmId) : (s.releaseArm a).pending = s.pending := by simp [State.releaseArm]
@[simp] theorem State.releaseArm_bay (a : ArmId) (x : BayId) : (s.releaseArm a).bay x = s.bay x := by simp [State.bay]
@[simp] theorem State.releaseArm_injector (a : ArmId) (x : InjId) : (s.releaseArm a).injector x = s.injector x := by simp [State.injector]
@[simp] theorem State.releaseArm_slot (a : ArmId) (x : SlotId) : (s.releaseArm a).slot x = s.slot x := by simp [State.slot]
@[simp] theorem State.releaseArm_entry (a : ArmId) (x : EntryId) : (s.releaseArm a).entry x = s.entry x := by simp [State.entry]
@[simp] theorem State.releaseArm_permit? (a : ArmId) (c' : Nat) : (s.releaseArm a).permit? c' = s.permit? c' := by simp [State.permit?]
@[simp] theorem State.releaseArm_order? (a : ArmId) (n : Nat) : (s.releaseArm a).order? n = s.order? n := by simp [State.order?]

@[simp] theorem State.setWants_permits (ws : List Want) : (s.setWants ws).permits = s.permits := by simp [State.setWants]
@[simp] theorem State.setWants_orders (ws : List Want) : (s.setWants ws).orders = s.orders := by simp [State.setWants]
@[simp] theorem State.setWants_referrals (ws : List Want) : (s.setWants ws).referrals = s.referrals := by simp [State.setWants]
@[simp] theorem State.setWants_bays (ws : List Want) : (s.setWants ws).bays = s.bays := by simp [State.setWants]
@[simp] theorem State.setWants_arms (ws : List Want) : (s.setWants ws).arms = s.arms := by simp [State.setWants]
@[simp] theorem State.setWants_dosing (ws : List Want) : (s.setWants ws).dosing = s.dosing := by simp [State.setWants]
@[simp] theorem State.setWants_notes (ws : List Want) : (s.setWants ws).notes = s.notes := by simp [State.setWants]
@[simp] theorem State.setWants_clock (ws : List Want) : (s.setWants ws).clock = s.clock := by simp [State.setWants]
@[simp] theorem State.setWants_settings (ws : List Want) : (s.setWants ws).settings = s.settings := by simp [State.setWants]
@[simp] theorem State.setWants_link (ws : List Want) : (s.setWants ws).link = s.link := by simp [State.setWants]
@[simp] theorem State.setWants_outputs (ws : List Want) : (s.setWants ws).outputs = s.outputs := by simp [State.setWants]
@[simp] theorem State.setWants_pending (ws : List Want) : (s.setWants ws).pending = s.pending := by simp [State.setWants]
@[simp] theorem State.setWants_bay (ws : List Want) (x : BayId) : (s.setWants ws).bay x = s.bay x := by simp [State.bay]
@[simp] theorem State.setWants_arm (ws : List Want) (x : ArmId) : (s.setWants ws).arm x = s.arm x := by simp [State.arm]
@[simp] theorem State.setWants_injector (ws : List Want) (x : InjId) : (s.setWants ws).injector x = s.injector x := by simp [State.injector]
@[simp] theorem State.setWants_slot (ws : List Want) (x : SlotId) : (s.setWants ws).slot x = s.slot x := by simp [State.slot]
@[simp] theorem State.setWants_seg? (ws : List Want) (x : ArmId) : (s.setWants ws).seg? x = s.seg? x := by simp [State.seg?, State.arm]
@[simp] theorem State.setWants_permit? (ws : List Want) (c' : Nat) : (s.setWants ws).permit? c' = s.permit? c' := by simp [State.permit?]
@[simp] theorem State.setWants_order? (ws : List Want) (n : Nat) : (s.setWants ws).order? n = s.order? n := by simp [State.order?]

@[simp] theorem State.setReferrals_permits (rs : List Referral) : (s.setReferrals rs).permits = s.permits := by simp [State.setReferrals]
@[simp] theorem State.setReferrals_orders (rs : List Referral) : (s.setReferrals rs).orders = s.orders := by simp [State.setReferrals]
@[simp] theorem State.setReferrals_bays (rs : List Referral) : (s.setReferrals rs).bays = s.bays := by simp [State.setReferrals]
@[simp] theorem State.setReferrals_arms (rs : List Referral) : (s.setReferrals rs).arms = s.arms := by simp [State.setReferrals]
@[simp] theorem State.setReferrals_cache (rs : List Referral) : (s.setReferrals rs).cache = s.cache := by simp [State.setReferrals]
@[simp] theorem State.setReferrals_dosing (rs : List Referral) : (s.setReferrals rs).dosing = s.dosing := by simp [State.setReferrals]
@[simp] theorem State.setReferrals_notes (rs : List Referral) : (s.setReferrals rs).notes = s.notes := by simp [State.setReferrals]
@[simp] theorem State.setReferrals_clock (rs : List Referral) : (s.setReferrals rs).clock = s.clock := by simp [State.setReferrals]
@[simp] theorem State.setReferrals_settings (rs : List Referral) : (s.setReferrals rs).settings = s.settings := by simp [State.setReferrals]
@[simp] theorem State.setReferrals_link (rs : List Referral) : (s.setReferrals rs).link = s.link := by simp [State.setReferrals]
@[simp] theorem State.setReferrals_outputs (rs : List Referral) : (s.setReferrals rs).outputs = s.outputs := by simp [State.setReferrals]
@[simp] theorem State.setReferrals_pending (rs : List Referral) : (s.setReferrals rs).pending = s.pending := by simp [State.setReferrals]
@[simp] theorem State.setReferrals_bay (rs : List Referral) (x : BayId) : (s.setReferrals rs).bay x = s.bay x := by simp [State.bay]
@[simp] theorem State.setReferrals_arm (rs : List Referral) (x : ArmId) : (s.setReferrals rs).arm x = s.arm x := by simp [State.arm]
@[simp] theorem State.setReferrals_injector (rs : List Referral) (x : InjId) : (s.setReferrals rs).injector x = s.injector x := by simp [State.injector]
@[simp] theorem State.setReferrals_slot (rs : List Referral) (x : SlotId) : (s.setReferrals rs).slot x = s.slot x := by simp [State.slot]
@[simp] theorem State.setReferrals_entry (rs : List Referral) (x : EntryId) : (s.setReferrals rs).entry x = s.entry x := by simp [State.entry]
@[simp] theorem State.setReferrals_seg? (rs : List Referral) (x : ArmId) : (s.setReferrals rs).seg? x = s.seg? x := by simp [State.seg?, State.arm]
@[simp] theorem State.setReferrals_permit? (rs : List Referral) (c' : Nat) : (s.setReferrals rs).permit? c' = s.permit? c' := by simp [State.permit?]
@[simp] theorem State.setReferrals_order? (rs : List Referral) (n : Nat) : (s.setReferrals rs).order? n = s.order? n := by simp [State.order?]

@[simp] theorem State.setCal_permits (v : Bool) : (s.setCal v).permits = s.permits := by simp [State.setCal]
@[simp] theorem State.setCal_orders (v : Bool) : (s.setCal v).orders = s.orders := by simp [State.setCal]
@[simp] theorem State.setCal_referrals (v : Bool) : (s.setCal v).referrals = s.referrals := by simp [State.setCal]
@[simp] theorem State.setCal_bays (v : Bool) : (s.setCal v).bays = s.bays := by simp [State.setCal]
@[simp] theorem State.setCal_arms (v : Bool) : (s.setCal v).arms = s.arms := by simp [State.setCal]
@[simp] theorem State.setCal_cache (v : Bool) : (s.setCal v).cache = s.cache := by simp [State.setCal]
@[simp] theorem State.setCal_dosing (v : Bool) : (s.setCal v).dosing = s.dosing := by simp [State.setCal]
@[simp] theorem State.setCal_notes (v : Bool) : (s.setCal v).notes = s.notes := by simp [State.setCal]
@[simp] theorem State.setCal_clock (v : Bool) : (s.setCal v).clock = s.clock := by simp [State.setCal]
@[simp] theorem State.setCal_link (v : Bool) : (s.setCal v).link = s.link := by simp [State.setCal]
@[simp] theorem State.setCal_outputs (v : Bool) : (s.setCal v).outputs = s.outputs := by simp [State.setCal]
@[simp] theorem State.setCal_pending (v : Bool) : (s.setCal v).pending = s.pending := by simp [State.setCal]
@[simp] theorem State.setCal_bay (v : Bool) (x : BayId) : (s.setCal v).bay x = s.bay x := by simp [State.bay]
@[simp] theorem State.setCal_arm (v : Bool) (x : ArmId) : (s.setCal v).arm x = s.arm x := by simp [State.arm]
@[simp] theorem State.setCal_injector (v : Bool) (x : InjId) : (s.setCal v).injector x = s.injector x := by simp [State.injector]
@[simp] theorem State.setCal_slot (v : Bool) (x : SlotId) : (s.setCal v).slot x = s.slot x := by simp [State.slot]
@[simp] theorem State.setCal_entry (v : Bool) (x : EntryId) : (s.setCal v).entry x = s.entry x := by simp [State.entry]
@[simp] theorem State.setCal_seg? (v : Bool) (x : ArmId) : (s.setCal v).seg? x = s.seg? x := by simp [State.seg?, State.arm]
@[simp] theorem State.setCal_permit? (v : Bool) (c' : Nat) : (s.setCal v).permit? c' = s.permit? c' := by simp [State.permit?]
@[simp] theorem State.setCal_order? (v : Bool) (n : Nat) : (s.setCal v).order? n = s.order? n := by simp [State.order?]

@[simp] theorem State.prompt_permits (b : BayId) (p : Prompt) : (s.prompt b p).permits = s.permits := rfl
@[simp] theorem State.prompt_orders (b : BayId) (p : Prompt) : (s.prompt b p).orders = s.orders := rfl
@[simp] theorem State.prompt_referrals (b : BayId) (p : Prompt) : (s.prompt b p).referrals = s.referrals := rfl
@[simp] theorem State.prompt_arms (b : BayId) (p : Prompt) : (s.prompt b p).arms = s.arms := rfl
@[simp] theorem State.prompt_cache (b : BayId) (p : Prompt) : (s.prompt b p).cache = s.cache := rfl
@[simp] theorem State.prompt_dosing (b : BayId) (p : Prompt) : (s.prompt b p).dosing = s.dosing := rfl
@[simp] theorem State.prompt_notes (b : BayId) (p : Prompt) : (s.prompt b p).notes = s.notes := rfl
@[simp] theorem State.prompt_clock (b : BayId) (p : Prompt) : (s.prompt b p).clock = s.clock := rfl
@[simp] theorem State.prompt_att (b : BayId) (p : Prompt) : (s.prompt b p).att = s.att := rfl
@[simp] theorem State.prompt_settings (b : BayId) (p : Prompt) : (s.prompt b p).settings = s.settings := rfl
@[simp] theorem State.prompt_link (b : BayId) (p : Prompt) : (s.prompt b p).link = s.link := rfl
@[simp] theorem State.prompt_pending (b : BayId) (p : Prompt) : (s.prompt b p).pending = s.pending := rfl
@[simp] theorem State.prompt_arm (b : BayId) (p : Prompt) (x : ArmId) : (s.prompt b p).arm x = s.arm x := rfl
@[simp] theorem State.prompt_injector (b : BayId) (p : Prompt) (x : InjId) : (s.prompt b p).injector x = s.injector x := rfl
@[simp] theorem State.prompt_slot (b : BayId) (p : Prompt) (x : SlotId) : (s.prompt b p).slot x = s.slot x := rfl
@[simp] theorem State.prompt_entry (b : BayId) (p : Prompt) (x : EntryId) : (s.prompt b p).entry x = s.entry x := rfl
@[simp] theorem State.prompt_seg? (b : BayId) (p : Prompt) (x : ArmId) : (s.prompt b p).seg? x = s.seg? x := rfl
@[simp] theorem State.prompt_permit? (b : BayId) (p : Prompt) (c' : Nat) : (s.prompt b p).permit? c' = s.permit? c' := rfl
@[simp] theorem State.prompt_order? (b : BayId) (p : Prompt) (n : Nat) : (s.prompt b p).order? n = s.order? n := rfl

/-! What an update writes. -/

@[simp] theorem State.modBay_bay_self (b : BayId) (f : Bay → Bay) : (s.modBay b f).bay b = f (s.bay b) := by
  simp [State.modBay, State.bay]

theorem State.modBay_bay_ne {b c : BayId} (h : c ≠ b) (f : Bay → Bay) : (s.modBay b f).bay c = s.bay c := by
  have h' : b.val ≠ c.val := fun e => h (Fin.ext e.symm)
  simp [State.modBay, State.bay, h']

@[simp] theorem State.modArm_arm_self (a : ArmId) (f : Arm → Arm) : (s.modArm a f).arm a = f (s.arm a) := by
  simp [State.modArm, State.arm]

theorem State.modArm_arm_ne {a c : ArmId} (h : c ≠ a) (f : Arm → Arm) : (s.modArm a f).arm c = s.arm c := by
  have h' : a.val ≠ c.val := fun e => h (Fin.ext e.symm)
  simp [State.modArm, State.arm, h']

@[simp] theorem State.modInjector_injector_self (j : InjId) (f : Injector → Injector) :
    (s.modInjector j f).injector j = f (s.injector j) := by
  simp [State.modInjector, State.injector]

theorem State.modInjector_injector_ne {j i : InjId} (h : i ≠ j) (f : Injector → Injector) :
    (s.modInjector j f).injector i = s.injector i := by
  have h' : j.val ≠ i.val := fun e => h (Fin.ext e.symm)
  simp [State.modInjector, State.injector, h']

@[simp] theorem State.setSlot_slot_self (k : SlotId) (v : NoteSlot) : (s.setSlot k v).slot k = v := by
  simp [State.setSlot, State.slot]

theorem State.setSlot_slot_ne {k i : SlotId} (h : i ≠ k) (v : NoteSlot) : (s.setSlot k v).slot i = s.slot i := by
  have h' : k.val ≠ i.val := fun e => h (Fin.ext e.symm)
  simp [State.setSlot, State.slot, h']

@[simp] theorem State.setEntry_entry_self (e : EntryId) (v : Option Entry) : (s.setEntry e v).entry e = v := by
  simp [State.setEntry, State.entry]

theorem State.setEntry_entry_ne {e i : EntryId} (h : i ≠ e) (v : Option Entry) : (s.setEntry e v).entry i = s.entry i := by
  have h' : e.val ≠ i.val := fun x => h (Fin.ext x.symm)
  simp [State.setEntry, State.entry, h']

end Sys2Proof.Machine
end

