-- ==== Sys2Proof/Laws/Link.lean ====
section
/-! SUPPORT. What the rack link's operations do: a request at an idle link is taken at once, and the cases of the inbound queue
(R188, R189); the runs of the parts of an event; fields of bodies read back as they were written (R185). -/

namespace Sys2Proof.Machine

/-! ## Parts of an event -/

@[simp] theorem runJobs_nil (n : Nat) (s : State) : runJobs n [] s = s := by cases n <;> rfl

@[simp] theorem runJobs_cons (n : Nat) (j : Job) (js : List Job) (s : State) :
    runJobs (n + 1) (j :: js) s = runJobs n ((doJob j s).2 ++ js) (doJob j s).1 := rfl

@[simp] theorem settle_nil (s : State) : settle (s, []) = s := runJobs_nil _ _

/-- An event's first part, with what follows from it put before the rest. -/
theorem settle_cons (j : Job) (js : List Job) (s : State) :
    settle (s, j :: js) = runJobs 999 ((doJob j s).2 ++ js) (doJob j s).1 := rfl

/-! ## The inbound queue -/

/-- At an idle link an offered frame is taken at once (R188, R189). -/
theorem offer_idle {s : State} (h : s.linkIdle) (f : Frame) : s.offer f = State.takeFrame f s := by
  obtain ⟨hin, htake⟩ := h
  have hs : ({ s with link := { s.link with inbound := [] } } : State) = s := by
    cases s with
    | mk permits orders referrals bays arms cache dosing notes clock att settings link outputs pending =>
      cases link
      simp only at hin
      subst hin
      rfl
  have htake' : ∀ x, Link.mayTake { s.link with inbound := x } = true := fun _ => htake
  simp [State.offer, State.drained, hin, Config.inboundCapacity, drain, htake', hs]

/-- What an offered frame meets at the inbound queue (R188). -/
theorem offer_cases (s : State) (f : Frame) :
    (s.link.inbound.length < 2 ∧
        s.offer f = State.drained { s with link := { s.link with inbound := s.link.inbound ++ [f] } })
      ∨ (2 ≤ s.link.inbound.length ∧ s.link.outbound.length < 4 ∧
        s.offer f = State.respond f (.refuse .busy) { s with link := { s.link with busyCount := count s.link.busyCount } })
      ∨ (2 ≤ s.link.inbound.length ∧ 4 ≤ s.link.outbound.length ∧
        s.offer f = { s with link := { s.link with dropCount := count s.link.dropCount } }) := by
  unfold State.offer Config.inboundCapacity Link.hasRoom Config.outboundCapacity
  by_cases h : s.link.inbound.length < 2
  · simp [h]
  · by_cases h' : s.link.outbound.length < 4
    · simp [h, h']; omega
    · simp [h, h']; omega

/-- Frames wait while the head of the queue may not be taken (R189). -/
theorem drained_waits {s : State} (h : s.link.mayTake = false) : s.drained = s := by
  unfold State.drained
  cases hl : s.link.inbound.length with
  | zero => rfl
  | succ n => unfold drain; split <;> simp_all

@[simp] theorem drained_empty {s : State} (h : s.link.inbound = []) : s.drained = s := by
  simp [State.drained, h, drain]

/-- A taken frame whose owner starts nothing further: the owner's state with the response (R189). -/
theorem takeFrame_plain {s t : State} {f : Frame} {a : Answer} (h : owner f.kind f.body s = (t, a, [])) :
    State.takeFrame f s = t.respond f a := by simp [State.takeFrame, h]

/-- A request at an idle link, by what its owner answers (R189). -/
theorem offer_owner {s t : State} {kind tag : Byte} {body : List Byte} {a : Answer} {js : List Job} (h : s.linkIdle)
    (ho : owner kind body s = (t, a, js)) : s.offer ⟨kind, tag, body⟩ = State.answered kind tag body a (settle (t, js)) := by
  rw [offer_idle h]; simp [State.takeFrame, State.answered, ho]

/-- A request at an idle link whose owner starts nothing further (R189). -/
theorem offer_plain {s t : State} {kind tag : Byte} {body : List Byte} {a : Answer} (h : s.linkIdle)
    (ho : owner kind body s = (t, a, [])) : s.offer ⟨kind, tag, body⟩ = State.answered kind tag body a t := by
  rw [offer_owner h ho, settle_nil]

/-! ## Fields of bodies -/

@[simp] theorem b1_length (n : Nat) : (b1 n).length = 1 := rfl
@[simp] theorem b2_length (n : Nat) : (b2 n).length = 2 := rfl
@[simp] theorem b4_length (n : Nat) : (b4 n).length = 4 := rfl
@[simp] theorem b8_length (n : Nat) : (b8 n).length = 8 := rfl

theorem u8_append_left {x y : List Byte} {i : Nat} (h : i < x.length) : u8 (x ++ y) i = u8 x i := by
  simp [u8, List.getD_eq_getElem?_getD, List.getElem?_append_left h]

theorem u8_append_right {x y : List Byte} {i : Nat} (h : x.length ≤ i) : u8 (x ++ y) i = u8 y (i - x.length) := by
  simp [u8, List.getD_eq_getElem?_getD, List.getElem?_append_right h]

theorem u16_append_left {x y : List Byte} {i : Nat} (h : i + 1 < x.length) : u16 (x ++ y) i = u16 x i := by
  rw [u16, u16, u8_append_left (by omega), u8_append_left h]

theorem u16_append_right {x y : List Byte} {i : Nat} (h : x.length ≤ i) : u16 (x ++ y) i = u16 y (i - x.length) := by
  rw [u16, u16, u8_append_right h, u8_append_right (by omega)]; congr 2; omega

theorem u32_append_left {x y : List Byte} {i : Nat} (h : i + 3 < x.length) : u32 (x ++ y) i = u32 x i := by
  rw [u32, u32, u16_append_left (by omega), u16_append_left (by omega)]

theorem u32_append_right {x y : List Byte} {i : Nat} (h : x.length ≤ i) : u32 (x ++ y) i = u32 y (i - x.length) := by
  rw [u32, u32, u16_append_right h, u16_append_right (by omega)]; congr 2; omega

/-- A byte reads back as it was written. -/
theorem u8_b1 {n : Nat} (h : n ≤ 255) : u8 (b1 n) 0 = n := by simp [u8, b1]; omega

/-- A 2-byte field reads back as it was written (R185). -/
theorem u16_b2 {n : Nat} (h : n ≤ 65535) : u16 (b2 n) 0 = n := by simp [u16, u8, b2, b1]; omega

/-- A 4-byte field reads back as it was written (R185). -/
theorem u32_b4 {n : Nat} (h : n ≤ 4294967295) : u32 (b4 n) 0 = n := by simp [u32, u16, u8, b4, b2, b1]; omega

@[simp] theorem u8_zero_b1_append {n : Nat} (y : List Byte) : u8 (b1 n ++ y) 0 = n % 256 := by simp [u8, b1]

@[simp] theorem u8_succ_b1_append {n i : Nat} (y : List Byte) : u8 (b1 n ++ y) (i + 1) = u8 y i := by
  rw [u8_append_right (by simp)]; simp

end Sys2Proof.Machine
end

