-- ==== Sys2Proof/Laws/Ops.lean ====
section
/-! SUPPORT. What the shared operations do: one lemma each on what reading gives after them, on which units a request's byte
names, and on rounding, flags and marks. The statements' proofs cite these and unfold no operation. -/

namespace Sys2Proof.Machine

/-! ## Rounding -/

/-- Rounding up is the usual quotient with a remainder counted as one more. -/
theorem ceilDiv_thousand (n : Nat) : ceilDiv n 1000 = (n + 999) / 1000 := by simp [ceilDiv]

/-- Litres are the millilitres to the nearest thousand, halves up (R16, R100). -/
theorem litres_spec (ml : Nat) : litres ml * 1000 ≤ ml + 500 ∧ ml + 500 < litres ml * 1000 + 1000 := by
  unfold litres; omega

/-- The nearest quotient lies within half a divisor of the exact one, for either sign. -/
theorem nearestDiv_spec (n : Int) {d : Nat} (h : 0 < d) : 2 * (d * nearestDiv n d - n).natAbs ≤ d := by
  unfold nearestDiv
  split
  · obtain ⟨m, rfl⟩ := Int.eq_ofNat_of_zero_le ‹0 ≤ n›
    have h1 := Nat.div_add_mod (2 * m + d) (2 * d)
    have h2 := Nat.mod_lt (2 * m + d) (show 0 < 2 * d by omega)
    simp only [Int.toNat_natCast]
    generalize (2 * m + d) / (2 * d) = q at *
    rw [show 2 * d * q = 2 * (d * q) by ring] at h1
    rw [show (d : Int) * (q : Nat) = ((d * q : Nat) : Int) by push_cast; ring]
    omega
  · obtain ⟨m, hm⟩ := Int.eq_ofNat_of_zero_le (show 0 ≤ -n by omega)
    have h1 := Nat.div_add_mod (2 * m + d) (2 * d)
    have h2 := Nat.mod_lt (2 * m + d) (show 0 < 2 * d by omega)
    simp only [hm, Int.toNat_natCast]
    generalize (2 * m + d) / (2 * d) = q at *
    rw [show 2 * d * q = 2 * (d * q) by ring] at h1
    rw [show (d : Int) * -((q : Nat) : Int) = -((d * q : Nat) : Int) by push_cast; ring]
    omega

/-! ## Units named by a byte -/

@[simp] theorem bayOf_val (b : BayId) : bayOf b.val = some b := by simp [bayOf]
@[simp] theorem armOf_val (a : ArmId) : armOf a.val = some a := by simp [armOf]
@[simp] theorem injectorOf_val (j : InjId) : injectorOf j.val = some j := by simp [injectorOf]
@[simp] theorem slotOf_val (k : SlotId) : slotOf k.val = some k := by simp [slotOf]

/-- A request on a bay that its first byte names (R29). -/
theorem onBay_b1 (b : BayId) (y : List Byte) (s : State) (f : BayId → State × Answer × List Job) :
    onBay (y.length + 1) (b1 b.val ++ y) s f = f b := by
  have h : u8 (b1 b.val ++ y) 0 = b.val := by rw [u8_zero_b1_append]; omega
  simp [onBay, h, Nat.add_comm]

/-- A request on an arm that its one byte names (R52). -/
theorem onArm_b1 (a : ArmId) (s : State) (f : ArmId → State × Answer × List Job) : onArm (b1 a.val) s f = f a := by
  have h : u8 (b1 a.val) 0 = a.val := u8_b1 (by omega)
  simp [onArm, h]

/-! ## Permits -/

/-- The permit found for a card is that card's (R1). -/
theorem permit?_card {s : State} {card : Nat} {p : Permit} (h : s.permit? card = some p) : p.card = card := by
  simpa using List.find?_some h

/-- The card ids of R1 pass the validation. -/
theorem cardIdValid_of {card : Nat} (h : 1 ≤ card) (h' : card ≤ 4294967294) : cardIdValid card = true := by
  simp [cardIdValid]; omega

/-- A request on a card that its four bytes name (R2 to R8). -/
theorem onPermit_b4 {card : Nat} (h : 1 ≤ card) (h' : card ≤ 4294967294) (s : State) (f : Permit → State × Answer) :
    onPermit (b4 card) s f = match s.permit? card with
      | none => (s, .refuse .notFound)
      | some p => f p := by
  simp [onPermit, u32_b4 (show card ≤ 4294967295 by omega), cardIdValid_of h h'] <;> rfl

/-- A permit read after an update of it that keeps its card. -/
theorem permit?_modPermit (s : State) (card : Nat) {f : Permit → Permit} (hf : ∀ p, (f p).card = p.card) :
    (s.modPermit card f).permit? card = (s.permit? card).map f := by
  unfold State.permit? State.modPermit
  induction s.permits with
  | nil => rfl
  | cons p ps ih =>
    by_cases h : p.card = card
    · simp [h, hf]
    · simp only [List.map_cons, beq_iff_eq, h, if_false]
      rw [List.find?_cons_of_neg (by simpa using h), List.find?_cons_of_neg (by simpa using h)]
      simpa using ih

/-- A removed permit is gone (R7, R11). -/
@[simp] theorem permit?_removePermit (s : State) (card : Nat) : (s.removePermit card).permit? card = none := by
  simp [State.permit?, State.removePermit]

/-- The unbind of a card, by the record's state (R11). -/
theorem permit?_unbindPermit (s : State) (card : Nat) : (s.unbindPermit card).permit? card = (s.permit? card).bind unbound := by
  unfold State.unbindPermit
  cases h : s.permit? card with
  | none => simpa using h
  | some p =>
    by_cases hr : p.state = .retiring
    · simp [hr, unbound]
    · simp only [hr, if_false, Option.bind_some, unbound]
      rw [permit?_modPermit s card (f := fun q => { q with boundOrder := none }) (fun _ => rfl), h]; rfl

/-- An inserted permit joins the table and changes no other record (R4). -/
theorem insertPermit_perm (p : Permit) (ps : List Permit) : (insertPermit p ps).Perm (p :: ps) := by
  induction ps with
  | nil => exact List.Perm.refl _
  | cons q qs ih =>
    unfold insertPermit
    split
    · exact List.Perm.refl _
    · exact (List.Perm.cons q ih).trans (List.Perm.swap p q qs)

/-! ## Orders -/

/-- The order found for a number has that number (R21). -/
theorem order?_orderNo {s : State} {no : Nat} {o : Order} (h : s.order? no = some o) : o.orderNo = no := by
  simpa using List.find?_some h

/-- The line found for a compartment is that compartment's (R22). -/
theorem line?_compartment {o : Order} {c : Nat} {l : Line} (h : o.line? c = some l) : l.compartment = c := by
  simpa using List.find?_some h

/-- A request on an order that its four bytes name (R21, R24, R42). -/
theorem onOrder_b4 {no : Nat} (h : no ≤ 4294967295) (s : State) (f : Order → State × Answer) :
    onOrder (b4 no) s f = match s.order? no with
      | none => (s, .refuse .notFound)
      | some o => f o := by
  simp [onOrder, u32_b4 h] <;> rfl

/-- An order read after an update of it that keeps its number. -/
theorem order?_modOrder (s : State) (no : Nat) {f : Order → Order} (hf : ∀ o, (f o).orderNo = o.orderNo) :
    (s.modOrder no f).order? no = (s.order? no).map f := by
  unfold State.order? State.modOrder
  induction s.orders with
  | nil => rfl
  | cons o os ih =>
    by_cases h : o.orderNo = no
    · simp [h, hf]
    · simp only [List.map_cons, beq_iff_eq, h, if_false]
      rw [List.find?_cons_of_neg (by simpa using h), List.find?_cons_of_neg (by simpa using h)]
      simpa using ih

/-- A removed order is gone (R24, R28). -/
@[simp] theorem order?_removeOrder (s : State) (no : Nat) : (s.removeOrder no).order? no = none := by
  simp [State.order?, State.removeOrder]

/-- A line read after an update of it that keeps its compartment. -/
theorem line?_modLine (o : Order) (c : Nat) {f : Line → Line} (hf : ∀ l, (f l).compartment = l.compartment) :
    (o.modLine c f).line? c = (o.line? c).map f := by
  unfold Order.line? Order.modLine
  induction o.lines with
  | nil => rfl
  | cons l ls ih =>
    by_cases h : l.compartment = c
    · simp [h, hf]
    · simp only [List.map_cons, beq_iff_eq, h, if_false]
      rw [List.find?_cons_of_neg (by simpa using h), List.find?_cons_of_neg (by simpa using h)]
      simpa using ih

/-! ## Arms and segments -/

/-- An arm's segment read after an update of it. -/
@[simp] theorem seg?_modSeg_self (s : State) (a : ArmId) (f : Segment → Segment) :
    (s.modSeg a f).seg? a = (s.seg? a).map f := by
  simp only [State.seg?, State.modSeg, State.modArm_arm_self, Arm.modSeg, Arm.seg?]
  cases h : (s.arm a).status <;> simp [h]

/-- Another arm's segment is not reached by an update. -/
theorem seg?_modSeg_ne {a c : ArmId} (h : c ≠ a) (s : State) (f : Segment → Segment) :
    (s.modSeg a f).seg? c = s.seg? c := by
  simp only [State.seg?, State.modSeg, State.modArm_arm_ne s h]

/-- An arm that does not wait for a bay is one of none of its waiting arms. -/
theorem mem_waitArms {s : State} {b : BayId} {a : ArmId} : a ∈ s.waitArms b ↔ (s.arm a).waitsFor b = true := by
  simp [State.waitArms, allArms]

/-- The arms with a segment of a bay's order. -/
theorem mem_segArms {s : State} {b : BayId} {a : ArmId} : a ∈ s.segArms b ↔ ∃ g, s.seg? a = some g ∧ g.bay = b := by
  simp [State.segArms, allArms, Option.any_eq_true]

/-- The arms of a bay whose segments are in acquisition. -/
theorem mem_acquiringArms {s : State} {b : BayId} {a : ArmId} :
    a ∈ s.acquiringArms b ↔ ∃ g, s.seg? a = some g ∧ g.bay = b ∧ g.phase.acquiring = true := by
  simp only [State.acquiringArms, List.mem_filter, mem_segArms, Option.any_eq_true]
  constructor
  · rintro ⟨⟨g, hg, hb⟩, g', hg', ha⟩
    rw [hg] at hg'
    cases hg'
    exact ⟨g, hg, hb, ha⟩
  · rintro ⟨g, hg, hb, ha⟩
    exact ⟨⟨g, hg, hb⟩, g, hg, ha⟩

/-! ## Changes of state -/

@[simp] theorem setBayState_bay_self (s : State) (b : BayId) (st : BayState) :
    (s.setBayState b st).bay b = { s.bay b with state := st } := by
  unfold State.setBayState State.levelChange
  dsimp only
  split
  · simp
  · split
    · simp [State.mark_bay]
    · split <;> simp [State.mark_bay]

theorem setBayState_bay_ne {b c : BayId} (h : c ≠ b) (s : State) (st : BayState) : (s.setBayState b st).bay c = s.bay c := by
  unfold State.setBayState State.levelChange
  dsimp only
  split
  · exact State.modBay_bay_ne s h _
  · split
    · rw [State.mark_bay, State.modBay_bay_ne s h]
    · split
      · rw [State.mark_bay, State.modBay_bay_ne s h]
      · exact State.modBay_bay_ne s h _

@[simp] theorem prompt_bay_self (s : State) (b : BayId) (p : Prompt) :
    (s.prompt b p).bay b = { s.bay b with display := some p } := by simp [State.prompt]

theorem prompt_bay_ne {b c : BayId} (h : c ≠ b) (s : State) (p : Prompt) : (s.prompt b p).bay c = s.bay c := by
  rw [State.prompt, State.emit_bay, State.modBay_bay_ne s h]

@[simp] theorem prompt_outputs (s : State) (b : BayId) (p : Prompt) :
    (s.prompt b p).outputs = s.outputs ++ [.prompt b p] := rfl

@[simp] theorem setArmStatus_arm_self (s : State) (a : ArmId) (st : ArmStatus) :
    (s.setArmStatus a st).arm a = { s.arm a with status := st } := by
  unfold State.setArmStatus State.levelChange; split <;> simp [State.mark_arm]

theorem setArmStatus_arm_ne {a c : ArmId} (h : c ≠ a) (s : State) (st : ArmStatus) :
    (s.setArmStatus a st).arm c = s.arm c := by
  unfold State.setArmStatus State.levelChange; split
  · rw [State.mark_arm, State.modArm_arm_ne s h]
  · exact State.modArm_arm_ne s h _

@[simp] theorem setInjectorState_injector_self (s : State) (j : InjId) (st : InjectorState) :
    (s.setInjectorState j st).injector j = { s.injector j with state := st } := by
  unfold State.setInjectorState State.levelChange; split <;> simp [State.mark_injector]

theorem setInjectorState_injector_ne {j i : InjId} (h : i ≠ j) (s : State) (st : InjectorState) :
    (s.setInjectorState j st).injector i = s.injector i := by
  unfold State.setInjectorState State.levelChange; split
  · rw [State.mark_injector, State.modInjector_injector_ne s h]
  · exact State.modInjector_injector_ne s h _

/-- A released arm is IDLE without a claim (R54). -/
@[simp] theorem releaseArm_arm_self (s : State) (a : ArmId) :
    (s.releaseArm a).arm a = { s.arm a with status := .idle, claim := none } := by
  simp [State.releaseArm, State.clearClaim]

theorem releaseArm_arm_ne {a c : ArmId} (h : c ≠ a) (s : State) : (s.releaseArm a).arm c = s.arm c := by
  rw [State.releaseArm, State.clearClaim, State.occurReleased_arm, State.modArm_arm_ne _ h, setArmStatus_arm_ne h]

/-- Releasing several arms, each once. -/
theorem foldl_releaseArm (as : List ArmId) (s : State) (c : ArmId) :
    (as.foldl (fun t a => t.releaseArm a) s).arm c
      = if c ∈ as then { s.arm c with status := .idle, claim := none } else s.arm c := by
  induction as generalizing s with
  | nil => rfl
  | cons a as ih =>
    simp only [List.foldl_cons, ih, List.mem_cons]
    by_cases h : c = a
    · subst h; simp
    · simp [h, releaseArm_arm_ne h]

/-- Every arm that waits for a bay is released; every other arm is as before (R46, R47). -/
theorem releaseWaiting_arm (s : State) (b : BayId) (a : ArmId) :
    (s.releaseWaiting b).arm a
      = if (s.arm a).waitsFor b then { s.arm a with status := .idle, claim := none } else s.arm a := by
  unfold State.releaseWaiting
  rw [foldl_releaseArm]
  simp [mem_waitArms]

/-- Updating the segments of several arms, each once. -/
theorem foldl_modSeg (f : Segment → Segment) (as : List ArmId) (h : as.Nodup) (s : State) (c : ArmId) :
    (as.foldl (fun t a => t.modSeg a f) s).seg? c = if c ∈ as then (s.seg? c).map f else s.seg? c := by
  induction as generalizing s with
  | nil => rfl
  | cons a as ih =>
    rw [List.nodup_cons] at h
    simp only [List.foldl_cons, ih h.2, List.mem_cons]
    by_cases hc : c = a
    · subst hc; simp [h.1]
    · simp [hc, seg?_modSeg_ne hc]

/-- Every segment of a bay takes the update; every other segment is as before (R44, R47, R70). -/
theorem shutBay_seg? (s : State) (b : BayId) (f : Segment → Segment) (a : ArmId) :
    (s.shutBay b f).seg? a = (s.seg? a).map fun g => if g.bay = b then f g else g := by
  unfold State.shutBay
  rw [foldl_modSeg f _ (by unfold State.segArms allArms; exact (List.nodup_finRange 24).filter _)]
  cases h : s.seg? a with
  | none => simp
  | some g =>
    by_cases hb : g.bay = b
    · rw [if_pos (mem_segArms.2 ⟨g, h, hb⟩)]; simp [hb]
    · rw [if_neg]
      · simp [hb]
      · rw [mem_segArms, h]; rintro ⟨g', hg', hb'⟩; cases hg'; exact hb hb'

/-! ## Marks and flags -/

/-- A flag set under a condition; a flag once set stays set (R149). -/
theorem hasFlag_setFlag (f g : LineFlag) (p : Bool) (flags : BitVec 14) :
    hasFlag g (setFlag f p flags) = (hasFlag g flags || (p && f == g)) := by
  cases p <;> cases f <;> cases g <;> simp [hasFlag, setFlag, LineFlag.bit]

/-- A level change marks its source exactly when the selection asks for that edge (R168). -/
theorem levelChange_att (s : State) (src : Source) (sel : Edge) (old new : Bool) :
    (s.levelChange src sel old new).att =
      if (!old && new && sel.asksOnset) || (old && !new && sel.asksClearance) then s.att.put src true else s.att := by
  unfold State.levelChange; split <;> rfl

/-! ## Frames -/

/-- The check sum of two runs of bytes is the sum of theirs (R185). -/
theorem byteSum_append (x y : List Byte) : byteSum (x ++ y) = byteSum x + byteSum y := by
  have h : ∀ (l : List Byte) (z : Byte), l.foldl (· + ·) z = z + l.foldl (· + ·) 0 := by
    intro l
    induction l with
    | nil => intro z; simp
    | cons b bs ih =>
      intro z
      simp only [List.foldl_cons]
      rw [ih (z + b), ih (0 + b)]
      simp [BitVec.add_assoc]
  simp only [byteSum, List.foldl_append]
  exact h _ _

/-- Commands run in two parts. -/
theorem runAll_append (x y : List Instr) (s : State) : runAll (x ++ y) s = match runAll x s with
    | .next t => runAll y t
    | .fault r => .fault r
    | .refused r => .refused r := by
  induction x generalizing s with
  | nil => rfl
  | cons c cs ih => simp only [List.cons_append, runAll]; cases exec c s <;> simp [ih]

/-- A request command is the offer of its frame (R188, R194). -/
theorem exec_requestOf (kind tag : Byte) (body : List Byte) (s : State) :
    exec (requestOf kind tag body) s = .next (s.offer ⟨kind, tag, body⟩) := by
  unfold requestOf
  split
  all_goals first
    | rfl
    | (rename_i h
       have hk := BitVec.eq_of_toNat_eq (x := kind) (y := BitVec.ofNat 8 kind.toNat) (by simp)
       rw [h] at hk
       subst hk
       rfl)

/-! ## The end of a segment at its bay -/

/-- A bay with a segment takes no CARDED entry (R41, R45). -/
theorem settleBay_of_busy {b : BayId} {s : State} (h : s.bayBusy b = true) : s.settleBay b = s := by
  simp [State.settleBay, h]

/-- A bay without a segment takes the CARDED entry at LOADING, and again at CARDED (R41, R45; log 10). -/
theorem settleBay_of_free {b : BayId} {s : State} (hs : (s.bay b).state = .loading ∨ (s.bay b).state = .carded)
    (h : s.bayBusy b = false) : s.settleBay b = s.cardedEntry b := by
  simp [State.settleBay, h, hs]

/-- In every other state of the bay there is nothing to settle. -/
theorem settleBay_of_state {b : BayId} {s : State} (hl : (s.bay b).state ≠ .loading) (hc : (s.bay b).state ≠ .carded) :
    s.settleBay b = s := by
  simp [State.settleBay, hl, hc]

/-- A segment without an entry has no pin to release (R108). -/
theorem releasePin_none {a : ArmId} {g : Segment} (h : g.entry = none) (s : State) : s.releasePin a g = s := by
  simp [State.releasePin, h]

/-- A pinned segment's entry is unpinned, and the segment holds none from then on (R55, R108). -/
theorem releasePin_some {a : ArmId} {g : Segment} {e : EntryId} (h : g.entry = some e) (s : State) :
    s.releasePin a g = (s.unpin e).modSeg a fun x => { x with entry := none } := by
  simp [State.releasePin, h]

end Sys2Proof.Machine
end

