-- ==== Sys2Proof/Tests/Slice0.lean ====
section
/-! SUPPORT. Small tests: ill-formed commands refused, the manual's worked examples, one or two steps per command, and for every
statement of Certificates/Slice0/Obligations.lean with hypotheses a state and operands that meet them, clause by clause. -/

open Sys2Proof Sys2Proof.Machine

namespace Sys2Proof.Tests

/- One theorem after the other: many kernel evaluations at once would ask for too many threads. -/
set_option Elab.async false

/-! ## Helpers -/

/-- The state a step leaves; the start where it does not go on. -/
def after (c : Instr) (s : State) : State :=
  match exec c s with
  | .next t => t
  | .fault _ => s
  | .refused _ => s

/-- The body of the last response on the outbound list. -/
def answer (s : State) : List Byte := ((s.link.outbound.getLast?).map (·.body)).getD []

/-- Card 7's permit, bound to order 100. -/
def permit7 : Permit := ⟨7, .active, 42, 0x3FF#10, 0, 65535, none, 0, 0, 0, some 100⟩

/-- Compartment 1: 5,000 L of product 1200 on gross, no recipe. -/
def line1 (st : LineState) : Line := ⟨1, 1200, 5000, .gross, none, none, st, 0⟩

/-- Order 100 of card 7 at bay 0. -/
def order100 (st : OrderState) (line : Line) : Order := ⟨100, 7, none, st, some 0, none, [line]⟩

/-- Order 100 posted. -/
def posted100 : Order := ⟨100, 7, none, .posted, none, none, [line1 .opened]⟩

/-- A profile of meter 0 for product 1200, Kn 50,000, with a flat curve. -/
def entry1200 : Entry := ⟨0, 1200, 0, .low, 50000, [⟨100, 100000⟩, ⟨2000, 100000⟩], 90, 200000, 300000, 1880, 5000, 77, 1, false⟩

/-- A segment of order 100, compartment 1, at bay 0, in a phase. -/
def segIn (ph : Phase) : Segment :=
  { freshSegment 100 1 0 .panel 5000000 5000 false with phase := ph }

/-- A flowing segment with profile slot 0 pinned and its period timer running. -/
def segFlow (ph : Phase) : Segment :=
  { segIn ph with counted := true, entry := some 0, calSerial := some 77, periodTimer := some 250 }

/-- Bay 0 in a state with card 7 and order 100. -/
def visiting (st : BayState) (s : State) : State :=
  s.modBay 0 fun x => { x with state := st, card := some 7, boundOrder := some 100 }

/-- Bay 0 with card 7's order 100, its permit, and arm 0 set up for product 1200. -/
def visit (st : BayState) (ost : OrderState) (line : Line) : State :=
  (visiting st { State.reset with permits := [permit7], orders := [order100 ost line] }).modArm 0 fun x =>
    { x with products := [1200] }

/-- The same with the segment on arm 0 and the profile in slot 0. -/
def loading (st : BayState) (g : Segment) : State :=
  let s := (visit st .loading (line1 .active)).modArm 0 fun x => { x with status := .segment g, claim := some 0 }
  (s.setEntry 0 (some entry1200)).modArm 0 id

/-- The same with a second, waiting segment on arm 1. -/
def loading2 (g h : Segment) : State :=
  (loading .loading g).modArm 1 fun x => { x with status := .segment h, claim := some 0 }

/-- Reset with an injector record. -/
def dosingWith (x : Injector) : State := State.reset.modInjector 0 fun _ => x

/-- An injector of class 3 that reaches arm 0. -/
def inj (st : InjectorState) : Injector := { Injector.powerOn with cls := 3, reach := [0], state := st }

/-- A claim on injector 0 for a mandatory first component. -/
def claim0 : Claim := ⟨0, 1, ⟨3, 500, true⟩, 0, false⟩

/-- A fact about every segment, read off each arm. -/
theorem of_all_segs {s : State} {p : Segment → Prop} [DecidablePred p]
    (h : ∀ a : ArmId, (s.seg? a).all (fun g => decide (p g)) = true) : ∀ a g, s.seg? a = some g → p g := by
  intro a g hg
  have := h a
  rw [hg] at this
  simpa using this

/-! ## Ill-formed commands -/

theorem test_wf_body_249 : WellFormed (.permitGet 0 (List.replicate 249 0)) = false := by decide +kernel
theorem test_wf_body_248 : WellFormed (.permitGet 0 (List.replicate 248 0)) = true := by decide +kernel
theorem test_wf_unknown_body_249 : WellFormed (.unknownRequest 0x17 0 (List.replicate 249 0)) = false := by decide +kernel
theorem test_wf_unknown_table_kind : WellFormed (.unknownRequest 0x10 0 []) = false := by decide
theorem test_wf_unknown_free_kind : WellFormed (.unknownRequest 0x17 0 []) = true := by decide
theorem test_wf_card_0 : WellFormed (.card 0 0) = false := by decide
theorem test_wf_card_top : WellFormed (.card 0 4294967295) = false := by decide
theorem test_wf_start_arm_24 : WellFormed (.start 0 24 1) = false := by decide
theorem test_wf_start_compartment_0 : WellFormed (.start 0 0 0) = false := by decide
theorem test_wf_start_compartment_9 : WellFormed (.start 0 0 9) = false := by decide
theorem test_wf_stop_arm_24 : WellFormed (.stop 0 24) = false := by decide
theorem test_wf_start : WellFormed (.start 7 23 8) = true := by decide

/-! ## The queue -/

theorem test_decode_no_row_has_bits : decodeTableWord 8 0x10 = none := by decide
theorem test_step_front : step { State.reset with pending := [.malformedPanelFrame 0] } = .next State.reset := rfl

/-! ## The manual's worked figures -/

/-- 10, worked exchange: the CLOCK GET of tag 0x23, byte by byte, and its response with its check byte. -/
def clockState : State := { State.reset with clock := ⟨3021, 410, 37000⟩ }

theorem test_worked_clock_get_request : Frame.bytes ⟨0x71, 0x23, []⟩ = [0xC3, 0x02, 0x71, 0x23, 0x6A] := by decide +kernel

theorem test_worked_clock_get_response :
    (after (.receiveByte 0x6A false) { clockState with link := { Link.powerOn with
      receiver := .collect 2 [0x71, 0x23], gapTimer := some 50 } }).link.outbound.map Frame.bytes
      = [[0xC3, 0x08, 0xF1, 0x23, 0x00, 0x0B, 0xCD, 0x01, 0x9A, 0x25, 0x4C]] := by decide +kernel

/-- 04, worked period at ordinary values: the profile, the segment and its arm before the expiry. -/
def workedEntry : Entry := { entry1200 with alpha := 1200, curve := [⟨200, 100150⟩, ⟨1000, 100050⟩, ⟨2400, 99980⟩] }

def workedSeg : Segment :=
  { segFlow .high with
    residueI := 30000, residueG := 40000, residueN := 700000, sumTGV := 2913150000, sumGVT := 1198000 }

def workedArm : Arm := { Arm.powerOn 11 with counterA := 260, counterB := 261, sample := some 2437, freshness := some 1400 }

theorem test_worked_period : workedSeg.period1 workedEntry workedArm 1500
    = ⟨260, 261, 5200, 1248, 100038, some 2437, 988756, 5202, 5144⟩ := by decide +kernel

theorem test_worked_period_sums :
    let g := workedSeg.accumulate workedEntry workedArm (workedSeg.period1 workedEntry workedArm 1500) .net
    (g.residueI, g.residueG, g.residueN, g.sumTGV, g.sumGVT, g.holdAge, g.net)
      = (30000, 37600, 208712, 2925827274, 1203202, 0, 5144) := by decide +kernel

/-- 04, worked correction factors at the limits. -/
theorem test_worked_corrections :
    [correction 1200 2437 1500, correction 1250 1499 1500, correction 1250 1501 1500, correction 900 (-1850) 1500,
      correction 2500 7900 1500, correction 2500 (-5000) 2000, correction 0 6500 2000]
      = [988756, 1000013, 999987, 1030150, 850000, 1150000, 1000000] := by decide +kernel

/-- 04, an awkward K-factor: three periods of 500 pulses. -/
theorem test_worked_awkward_kn :
    [volumeStage 500000000 1234567, volumeStage 500000365 1234567, volumeStage 500000730 1234567]
      = [(405, 365), (405, 730), (405, 1095)] ∧ flowRate 405 = 97 := by decide +kernel

/-- 04, the flow-rate clamp. -/
theorem test_worked_flow_clamp : flowRate 50000 = 9999 ∧ meterFactor workedEntry.curve 9999 = 99980 := by decide +kernel

/-- 04, average temperature on a note line, and its litres. -/
theorem test_worked_average : { freshNoteLine (line1 .part) 0 with
      sumTGV := 14259002000, sumGVT := 6000120 }.averageTemp = some 2376
    ∧ litres 6003499 = 6003 ∧ litres 5943499 = 5943 ∧ litres 6003500 = 6004 := by decide +kernel

/-- 03, worked closing sequence: the advance learned. -/
theorem test_worked_learning : learnedAdvance 2000 1640 = 1910 := by decide +kernel

/-- 01, worked allowance sequence: the second start trimmed to what is left, and the first end's charge. -/
theorem test_worked_trim :
    let p := { permit7 with allowance := some 30000, used := 21450 }
    p.reservation 6000000 = some ⟨6000000, 6000, false⟩
      ∧ { p with reserved := 6000 }.reservation 5000000 = some ⟨2550000, 2550, true⟩
      ∧ (Permit.charge 6000 6003612 false { p with reserved := 8550 }).used = 27454
      ∧ (Permit.charge 6000 6003612 false { p with reserved := 8550 }).reserved = 2550 := by decide +kernel

/-- 06, worked overpace: the settle of the first two periods and of the first confirm. -/
def overpace (acc : Nat) (firing queued : Bool) : Nat × Bool × Bool × Nat :=
  let x := { inj .claimed with shotUl := 10000, accNl := acc, firing := firing, queued := queued }.settle
  (x.accNl, x.firing, x.queued, x.owed)

theorem test_worked_overpace : [overpace 20000000 false false, overpace 20000000 true true, overpace 20000000 false true]
      = [(0, true, true, 2), (20000000, true, true, 4), (10000000, true, true, 3)]
    ∧ [capAfter 4 false, capAfter 2 true, capAfter 2 false, capAfter 1 true] = [true, true, false, false] := by decide +kernel

/-- 06, worked write-back: UNDERDOSED of class 3 and of class 7. -/
theorem test_worked_underdosed : underdosedTest 2000060 1875000 25000 = true ∧ underdosedTest 160004 160000 2000 = false := by
  decide +kernel

/-! ## One step of each command

Expected bytes and fields are read off the rules named; tag 0x33 throughout. -/

def putBody : List Byte := [0, 0, 0, 7, 0, 0, 42, 0x03, 0xFF, 0, 0, 0xFF, 0xFF, 0xFF, 0xFF, 0xFF, 0xFF]

theorem test_permitPut_inserted : answer (after (.permitPut 0x33 putBody) State.reset) = [0, 0]
    ∧ (after (.permitPut 0x33 putBody) State.reset).permits = [{ permit7 with boundOrder := none }] := by decide +kernel
theorem test_permitPut_replaced : answer (after (.permitPut 0x33 putBody) (visit .carded .bound (line1 .opened))) = [0, 1] := by
  decide +kernel
theorem test_permitGet : answer (after (.permitGet 0x33 [0, 0, 0, 7]) (visit .carded .bound (line1 .opened)))
    = [0, 0, 0, 0, 7, 0, 0, 42, 0x03, 0xFF, 0, 0, 0xFF, 0xFF, 0xFF, 0xFF, 0xFF, 0xFF, 0, 0, 0, 0, 0, 0, 0, 0, 0, 0, 0, 0, 100] := by
  decide +kernel
theorem test_permitSuspend : ((after (.permitSuspend 0x33 [0, 0, 0, 7]) (visit .carded .bound (line1 .opened))).permits.map
    (·.state)) = [.suspended] := by decide +kernel
theorem test_permitResume : answer (after (.permitResume 0x33 [0, 0, 0, 8]) (visit .carded .bound (line1 .opened))) = [4] := by
  decide +kernel
theorem test_permitUnlock : ((after (.permitUnlock 0x33 [0, 0, 0, 7]) { State.reset with
    permits := [{ permit7 with state := .locked, strikes := 3 }] }).permits.map fun p => (p.state, p.strikes))
    = [(.active, 0)] := by decide +kernel
theorem test_permitRetire_bound : answer (after (.permitRetire 0x33 [0, 0, 0, 7]) (visit .carded .bound (line1 .opened)))
    = [0, 3] := by decide +kernel
theorem test_walk : (answer (after (.walk 0x33 [0, 0, 0, 0]) (visit .carded .bound (line1 .opened)))).take 5 = [0, 0, 0, 0, 7] := by
  decide +kernel

def postBody : List Byte :=
  [0, 0, 0, 100, 0, 0, 0, 7, 0xFF, 1] ++ [1, 0x04, 0xB0, 0, 0, 0x13, 0x88, 0, 0xFF, 0xFF]

theorem test_orderPost : (after (.orderPost 0x33 postBody) State.reset).orders = [posted100] := by decide +kernel
theorem test_orderPost_bad_basis :
    answer (after (.orderPost 0x33 (postBody.set 17 5)) State.reset) = [8] := by decide +kernel
theorem test_orderGet : answer (after (.orderGet 0x33 [0, 0, 0, 100]) (visit .carded .bound (line1 .opened)))
    = [0] ++ [0, 0, 0, 100, 0, 0, 0, 7, 0xFF, 1, 0, 0xFF, 0, 1, 1]
      ++ [1, 0x04, 0xB0, 0, 0, 0x13, 0x88, 0, 0xFF, 0xFF, 0, 0, 0] ++ List.replicate 12 0 := by decide +kernel
theorem test_orderCancel_loading : answer (after (.orderCancel 0x33 [0, 0, 0, 100]) (visit .loading .loading (line1 .opened)))
    = [7, 0] := by decide +kernel
theorem test_orderEnd : ((after (.orderEnd 0x33 [0, 0, 0, 100]) (visit .carded .bound (line1 .opened))).bay 0).state = .idle := by
  decide +kernel
theorem test_bayOpen : ((after (.bayOpen 0x33 [3]) State.reset).bay 3).state = .idle := by decide +kernel
theorem test_bayClose : ((after (.bayClose 0x33 [0]) (loading .loading (segFlow .high))).bay 0).state = .ending := by
  decide +kernel
theorem test_bayGet : answer (after (.bayGet 0x33 [0]) (loading .loading (segFlow .high)))
    = [0, 4, 0, 0, 0, 7, 0, 0, 0, 100, 0, 0, 0, 0, 0, 0, 1] := by decide +kernel
theorem test_holdSet : ((after (.holdSet 0x33 [0, 0x81]) (loading .loading (segFlow .high))).bay 0).holdWindow = some 120000
    ∧ ((after (.holdSet 0x33 [0, 0x81]) (loading .loading (segFlow .high))).seg? 0).map (·.phase) = some .pausing := by
  decide +kernel
theorem test_holdClear : ((after (.holdClear 0x33 [0, 0x01]) ((visit .hold .bound (line1 .opened)).modBay 0 fun x =>
    { x with holdFlags := 1 })).bay 0).state = .carded := by decide +kernel
theorem test_authGrant_late : answer (after (.authGrant 0x33 [0, 0, 0, 0, 100]) State.reset) = [0x0A] := by decide +kernel
theorem test_authDeny : ((after (.authDeny 0x33 [0]) (State.reset.joinReferral 0 7)).bay 0).state = .idle := by decide +kernel
theorem test_referralList : answer (after (.referralList 0x33 []) (State.reset.joinReferral 2 7))
    = [0, 1, 2, 0, 0, 0, 7, 0, 0, 30] := by decide +kernel
theorem test_armSet_swing : ((after (.armSet 0x33 [5, 2, 4, 3, 1, 0x04, 0xB0]) State.reset).arm 5).reach.map (·.val) = [3, 4] := by
  decide +kernel
theorem test_armGet : answer (after (.armGet 0x33 [0]) (visit .carded .bound (line1 .opened)))
    = [0, 1, 0, 0xFF, 1, 0x04, 0xB0, 0, 0, 0, 0, 0, 0, 0, 0xFF] ++ List.replicate 22 0 := by decide +kernel
theorem test_armStart_busy : answer (after (.armStart 0x33 [0, 0, 1]) (loading .loading (segFlow .high))) = [6] := by decide +kernel
theorem test_armStop : ((after (.armStop 0x33 [0]) (loading .loading (segFlow .high))).seg? 0).bind (·.endCause) = some .stopped := by
  decide +kernel
theorem test_armClear : answer (after (.armClear 0x33 [0]) State.reset) = [7, 0] := by decide +kernel

def loadBody : List Byte :=
  [0, 0x04, 0xB0, 0, 0, 0, 0, 0xC3, 0x50, 0, 90, 0, 3, 0x0D, 0x40, 0, 4, 0x93, 0xE0, 0, 0, 0x07, 0x58, 0, 0, 0x13, 0x88, 0, 77, 2]
    ++ [0, 100, 0, 1, 0x86, 0xA0, 0x07, 0xD0, 0, 1, 0x86, 0xA0]

theorem test_profileLoad : (after (.profileLoad 0x33 loadBody) State.reset).entry 0 = some { entry1200 with pinCount := 0 }
    ∧ answer (after (.profileLoad 0x33 loadBody) State.reset) = [0, 5, 0, 0xFF, 0xFF, 0xFF, 0xFF, 0xFF] := by decide +kernel
theorem test_profileRead : (answer (after (.profileRead 0x33 [0, 0x04, 0xB0, 0]) ((loading .loading (segFlow .high)).writeEntry 0
    entry1200))) = [0] ++ loadBody ++ [0, 1, 0, 1, 0] := by decide +kernel
theorem test_profileDrop : answer (after (.profileDrop 0x33 [0, 0x04, 0xB0, 0]) (loading .loading (segFlow .high))) = [0, 7, 0] := by
  decide +kernel
theorem test_profileList : answer (after (.profileList 0x33 []) State.reset) = [0, 0] := by decide +kernel
theorem test_wantList : answer (after (.wantList 0x33 []) ((loading .loading (segIn .awaitProfile)).placeWant 0 1200))
    = [0, 1, 0, 0, 0x04, 0xB0, 0, 0, 20] := by decide +kernel
theorem test_recipePut : (after (.recipePut 0x33 [12, 1, 3, 0x01, 0xF4, 1]) State.reset).dosing.recipes = [⟨12, [⟨3, 500, true⟩]⟩] := by
  decide +kernel
theorem test_recipeGet : answer (after (.recipeGet 0x33 [12]) State.reset) = [4] := by decide +kernel
theorem test_recipeRetire : answer (after (.recipeRetire 0x33 [12]) State.reset) = [4] := by decide +kernel
theorem test_recipeList : answer (after (.recipeList 0x33 []) State.reset) = [0, 0] := by decide +kernel
theorem test_injectorSet : ((after (.injectorSet 0x33 [0, 3, 1, 0, 1]) State.reset).injector 0).state = .idle := by decide +kernel
theorem test_injectorShot_unsealed : answer (after (.injectorShot 0x33 [0, 0, 0, 0x61, 0xA8]) State.reset) = [9] := by decide +kernel
theorem test_injectorClear : ((after (.injectorClear 0x33 [0]) (dosingWith (inj .fault))).injector 0).state = .idle := by decide +kernel
theorem test_injectorGet : answer (after (.injectorGet 0x33 [0]) State.reset)
    = [0, 1, 0] ++ List.replicate 8 0xFF ++ [0, 0, 0x03, 0xE8, 4, 0xFF, 0] ++ List.replicate 8 0 ++ [0, 0, 0, 0, 0, 0, 0]
      ++ [0, 0, 0, 0, 0, 0x0F, 0x42, 0x40] ++ List.replicate 17 0 := by decide +kernel
theorem test_queueList_class_16 : answer (after (.queueList 0x33 [16]) State.reset) = [8] := by decide +kernel

/-- An OPEN and a SEALED note of order 100. -/
def note100 : Note := ⟨100, 7, 0, some ⟨9, 42, 3, 4, 0, .standalone⟩, [freshNoteLine (line1 .active) 0], false, none⟩

def withSlot (x : NoteSlot) (sealed : List SlotId) (s : State) : State :=
  { s.setSlot 0 x with notes := { (s.setSlot 0 x).notes with sealedList := sealed } }

theorem test_notePeek : (answer (after (.notePeek 0x33 [0, 0]) (withSlot (.opened note100) [] State.reset))).take 17
    = [0, 0, 2, 1, 0, 0, 0, 100, 0, 0, 0, 7, 0, 0, 0, 0, 9] := by decide +kernel
theorem test_noteTake_open : answer (after (.noteTake 0x33 [0, 0]) (withSlot (.opened note100) [] State.reset)) = [7, 0] := by
  decide +kernel
theorem test_noteTake_frees : (after (.noteTake 0x33 [0, 1]) (withSlot (.sealed note100) [0] State.reset)).slot 0 = .free := by
  decide +kernel
theorem test_noteList : answer (after (.noteList 0x33 []) (withSlot (.opened note100) [] State.reset))
    = [0, 47, 0, 1, 0, 0, 0, 0, 1, 0] := by decide +kernel
theorem test_serialSet_zero : answer (after (.serialSet 0x33 [0, 0, 0, 0]) State.reset) = [8] := by decide +kernel
theorem test_clockSet_rollover : (after (.clockSet 0x33 [0, 1, 0, 0]) { State.reset with
    permits := [{ permit7 with used := 5 }] }).permits.map (·.used) = [0] := by decide +kernel
theorem test_clockSet_1440 : answer (after (.clockSet 0x33 [0, 0, 0x05, 0xA0]) State.reset) = [8] := by decide +kernel
theorem test_clockGet : answer (after (.clockGet 0x33 []) State.reset) = [0, 0, 0, 0, 0, 60] := by decide +kernel
theorem test_attentionRead : answer (after (.attentionRead 0x33 []) (State.reset.mark (.bay 2)))
    = [0, 1, 0, 0, 2, 0, 0, 0, 1] := by decide +kernel
theorem test_attentionEdges_slots : answer (after (.attentionEdges 0x33 [3, 0]) State.reset) = [8] := by decide +kernel
theorem test_modeSet : answer (after (.modeSet 0x33 [1]) (visit .carded .bound (line1 .opened))) = [7, 0] := by decide +kernel
theorem test_sealSet : answer (after (.sealSet 0x33 [0, 0x07, 0xD0]) State.reset) = [9] := by decide +kernel
theorem test_settingsGet : answer (after (.settingsGet 0x33 []) State.reset) = [0, 0, 0, 0, 0x05, 0xDC, 0, 50, 0, 0, 0, 0, 0] := by
  decide +kernel
theorem test_linkGet : answer (after (.linkGet 0x33 []) State.reset) = [0] ++ List.replicate 24 0 ++ [0, 1] := by decide +kernel
theorem test_restart_with_body : answer (after (.restart 0x33 [1]) State.reset) = [8] := by decide +kernel
theorem test_unknownRequest : (after (.unknownRequest 0x17 0x33 []) State.reset).link.outbound = [⟨0x97, 0x33, [2]⟩]
    ∧ (after (.unknownRequest 0x95 0x33 []) State.reset).link.outbound = [⟨0xFF, 0x33, [2]⟩] := by decide +kernel
theorem test_gapTimerExpiry : (after .gapTimerExpiry { State.reset with link := { Link.powerOn with
    receiver := .length, gapTimer := some 50 } }).link = { Link.powerOn with gapErrors := 1 } := by decide +kernel
theorem test_responseSent : (after .responseSent { State.reset with link := { Link.powerOn with
    outbound := [⟨0xFE, 1, [0]⟩] } }).settings.startCause = .restartRequest := by decide +kernel
theorem test_powerOnReset : (after (.powerOnReset { resetPins with strap := true }) State.reset).settings.mode = .referred := by
  decide +kernel
theorem test_restartInput :
    let t := after .restartInput (loading .loading (segFlow .high))
    (t.arm 0).lastEnd.map (·.cause) = some .restart ∧ t.orders = [] ∧ (t.bay 0).state = .idle := by decide +kernel
theorem test_malformedPanelFrame : (after (.malformedPanelFrame 0) State.reset).outputs = [] := by decide +kernel
theorem test_card_no_permit : (after (.card 0 7) (after (.bayOpen 0 [0]) State.reset)).outputs = [.prompt 0 (.refused .noPermit)] := by
  decide +kernel
theorem test_start_want : (after (.start 0 0 1) (visit .carded .bound (line1 .opened))).cache.wants = [⟨0, 0, 1200, 0⟩] := by
  decide +kernel
theorem test_start_flows : ((after (.start 0 0 1) ((visit .carded .bound (line1 .opened)).setEntry 0 (some entry1200))).seg? 0).map
    (fun g => (g.phase, g.counted, g.periodTimer)) = some (.lowStart, true, some 250) := by decide +kernel
theorem test_stop : ((after (.stop 0 0) (loading .loading (segFlow .lowStop))).seg? 0).map (·.phase) = some .closing := by decide +kernel
theorem test_endVisit : (after (.endVisit 0) (visit .carded .bound (line1 .opened))).outputs = [.prompt 0 (.done 0)] := by
  decide +kernel
theorem test_permissiveChange_estop : ((after (.permissiveChange 0 .estop false) (loading .loading (segFlow .high))).seg? 0).bind
    (·.endCause) = some .estop := by decide +kernel
theorem test_meterPulse_stops_at_2500 : ((after (.meterPulse 0 .a) ((loading .loading (segFlow .high)).modArm 0 fun x =>
    { x with counterA := 2500 })).arm 0).counterA = 2500 := by decide +kernel
theorem test_sampleFrame_negative : ((after (.sampleFrame 0 0xF8C6#16 true) State.reset).arm 0).sample = some (-1850) := by
  decide +kernel
theorem test_freshnessTimerExpiry : ((after (.freshnessTimerExpiry 0) (State.reset.modArm 0 fun x =>
    { x with sample := some 5, freshness := some 1 })).arm 0).sample = some 5 := by decide +kernel
theorem test_confirmEdge : ((after (.confirmEdge 0) (dosingWith { inj .claimed with firing := true, confirmTimer := some 9 })).injector
    0).confirmed = 1 := by decide +kernel
theorem test_confirmTimerExpiry : ((after (.confirmTimerExpiry 0) (dosingWith { inj .releasing with
    firing := true, confirmTimer := some 9, misses := 2 })).injector 0).state = .fault := by decide +kernel
theorem test_injectorFault_stray : ((after (.injectorFault 0 .stray) (dosingWith { inj .idle with strays := 4 })).injector 0).state
    = .fault := by decide +kernel
theorem test_calAssertion : ((after .calAssertion (loading .loading (segFlow .high))).seg? 0).bind (·.endCause) = some .calSeal := by
  decide +kernel
theorem test_calRelease : (after .calRelease { State.reset with settings := { State.reset.settings with cal := true } }).att.calMark
    = true := by decide +kernel
theorem test_minuteTimerExpiry : (after .minuteTimerExpiry { State.reset with clock := ⟨65535, 1439, 0⟩ }).clock = ⟨0, 0, 60000⟩ := by
  decide +kernel
theorem test_referralTimerExpiry : (after (.referralTimerExpiry 0) (State.reset.joinReferral 0 7)).outputs
    = [.prompt 0 (.refused .noAnswer)] := by decide +kernel
theorem test_cardIdleTimerExpiry : ((after (.cardIdleTimerExpiry 0) ((visit .carded .bound (line1 .opened)).modBay 0 fun x =>
    { x with cardIdleTimer := some 1 })).orders.map fun o => (o.state, o.bay)) = [(.posted, none)] := by decide +kernel
theorem test_holdWindowExpiry : (after (.holdWindowExpiry 0) ((visit .hold .loading (line1 .part)).modBay 0 fun x =>
    { x with holdWindow := some 1 })).outputs = [.prompt 0 (.hold 0)] := by decide +kernel
theorem test_wantTimerExpiry : ((after (.wantTimerExpiry 0) (loading .loading { segIn .awaitProfile with wantTimer := some 1 })).arm
    0).lastEnd.map (·.cause) = some .profileTimeout := by decide +kernel
theorem test_injectorWaitTimerExpiry : ((after (.injectorWaitTimerExpiry 0) (loading .loading { segIn .awaitInjector with
    injectorTimer := some 1 })).bay 0).state = .carded := by decide +kernel
theorem test_meteringPeriodExpiry : ((after (.meteringPeriodExpiry 0) ((loading .loading (segFlow .lowStart)).modArm 0 fun x =>
    { x with counterA := 50, counterB := 50 })).seg? 0).map (fun g => (g.gross, g.residueI)) = some (1000, 0) := by decide +kernel
theorem test_flowEnd : ((after (.flowEnd 0) (loading .loading { segFlow .closing with
    endCause := some .stopped, zeroRun := 1 })).arm 0).status = .idle := by decide +kernel
theorem test_leak : ((after (.leak 0) ((loading .loading { segFlow .closing with
    endCause := some .closed, closeCounter := 19 }).modArm 0 fun x => { x with counterA := 1 })).arm 0).status = .fault := by
  decide +kernel
theorem test_noFlow : ((after (.noFlow 0) (loading .loading { segFlow .high with zeroRun := 39 })).seg? 0).bind (·.endCause)
    = some .noFlow := by decide +kernel
theorem test_tempFault : ((after (.tempFault 0) (loading .loading { segFlow .high with
    lastTemp := some 1500, holdAge := 120 })).seg? 0).bind (·.endCause) = some .tempFault := by decide +kernel
theorem test_meterFault : ((after (.meterFault 0) ((loading .loading (segFlow .high)).modArm 0 fun x =>
    { x with counterA := 60, counterB := 9 })).seg? 0).bind (·.endCause) = some .meterFault := by decide +kernel

/-! ## States and operands that meet the statements' hypotheses

One theorem per statement; where a statement has several clauses, one part per clause, at the ends of its ranges. -/

/-- A link as power-on leaves it is idle. -/
theorem idle_of {s : State} (h : s.link = Link.powerOn) : s.linkIdle := by
  refine ⟨?_, ?_⟩ <;> rw [h] <;> decide

theorem witness_IdleStepIsOneMillisecond : State.reset.pending = [] := rfl

theorem witness_RequestCodesRoundTrip :
    WellFormed (.permitGet 0 [0, 0, 0, 7]) = true ∧ kindOf (.permitGet 0 [0, 0, 0, 7]) = some 0x11 := by decide +kernel

theorem witness_FrameBytesAreTheRequest : State.reset.link.receiver = .hunt ∧ State.reset.link.gapTimer = none
    ∧ (List.replicate 248 (0 : Byte)).length ≤ 248 := by decide +kernel

/-- Reset with the receiver in a state. -/
def rx (r : Receiver) : State := { State.reset with link := { Link.powerOn with receiver := r, gapTimer := some 50 } }

theorem witness_ReceiverTakesBytes :
    State.reset.link.receiver = .hunt ∧ ((0xC2 : Byte) ≠ 0xC3 ∨ false = true) ∧ ((0xC3 : Byte) ≠ 0xC3 ∨ true = true)
      ∧ ((rx .length).link.receiver = .length ∧ 2 ≤ (2 : Byte).toNat ∧ (250 : Byte).toNat ≤ 250)
      ∧ ((1 : Byte).toNat < 2 ∧ 250 < (251 : Byte).toNat)
      ∧ ((rx (.collect 2 [0x71])).link.receiver = .collect 2 [0x71] ∧ [(0x71 : Byte)].length < (2 : Byte).toNat)
      ∧ ((rx (.collect 2 [0x71, 0x23])).link.receiver = .collect 2 [0x71, 0x23] ∧ [(0x71 : Byte), 0x23].length = (2 : Byte).toNat
        ∧ byteSum (2 :: ([0x71, 0x23] ++ [0x6B])) ≠ 0)
      ∧ (([] : List Byte).length + 2 = (2 : Byte).toNat ∧ byteSum (2 :: 0x71 :: 0x23 :: ([] ++ [0x6A])) = 0)
      ∧ (rx .length).link.receiver ≠ .hunt ∧ (rx .length).link.gapTimer.isSome = true := by decide +kernel

/-- Reset with frames in the two queues of the link. -/
def queued (inbound outbound : List Frame) : State :=
  { State.reset with link := { Link.powerOn with inbound := inbound, outbound := outbound } }

/-- A CLOCK GET, its response, and a RESTART response. -/
def ask : Frame := ⟨0x71, 1, []⟩
def reply : Frame := ⟨0xF1, 1, [0, 0, 0, 0, 0, 60]⟩
def restartReply : Frame := ⟨0xFE, 2, [0]⟩

theorem witness_InboundQueue :
    (2 ≤ (queued [ask, ask] [reply, reply, reply]).link.inbound.length
      ∧ (queued [ask, ask] [reply, reply, reply]).link.outbound.length < 4)
    ∧ (2 ≤ (queued [ask, ask] (List.replicate 4 reply)).link.inbound.length
      ∧ 4 ≤ (queued [ask, ask] (List.replicate 4 reply)).link.outbound.length)
    ∧ ((queued [ask] (List.replicate 4 reply)).link.inbound.length < 2
      ∧ 4 ≤ (queued [ask] (List.replicate 4 reply)).link.outbound.length)
    ∧ ((queued [] [restartReply]).link.inbound.length < 2
      ∧ ∃ r ∈ (queued [] [restartReply]).link.outbound, r.isRestart = true)
    ∧ (queued [] [reply, reply, reply]).linkIdle := by
  refine ⟨by decide +kernel, by decide +kernel, by decide +kernel, by decide +kernel, ⟨rfl, by decide +kernel⟩⟩

theorem witness_UnknownOrMalformedFrames :
    State.reset.linkIdle ∧ (0x17 : Byte).toNat ∉ requestCodes ∧ (∃ p ∈ fixedShapes, ([] : List Byte).length ≠ p.2)
      ∧ (List.replicate 9 (0 : Byte)).length < 10
      ∧ (List.replicate 11 (0 : Byte)).length ≠ 10 + 10 * ((List.replicate 11 (0 : Byte)).getD 9 0).toNat
      ∧ [(1 : Byte)].length < 2 ∧ [(1 : Byte), 1].length ≠ 2 + 4 * ([(1 : Byte), 1].getD 1 0).toNat
      ∧ [(1 : Byte), 1].length < 3 ∧ [(1 : Byte), 1, 0].length ≠ 4 + ([(1 : Byte), 1, 0].getD 2 0).toNat
      ∧ (List.replicate 29 (0 : Byte)).length < 30
      ∧ (List.replicate 31 (0 : Byte)).length ≠ 30 + 6 * ((List.replicate 31 (0 : Byte)).getD 29 0).toNat
      ∧ [(0 : Byte), 1, 0].length < 3 + ([(0 : Byte), 1, 0].getD 1 0).toNat
      ∧ [(0 : Byte), 0, 1].length ≠ 3 + ([(0 : Byte), 0, 1].getD 1 0).toNat
          + 2 * ([(0 : Byte), 0, 1].getD (2 + ([(0 : Byte), 0, 1].getD 1 0).toNat) 0).toNat :=
  ⟨idle_of rfl, by decide +kernel⟩

theorem witness_ResponseSentAndRestart :
    State.reset.link.outbound = [] ∧ State.reset.linkIdle
      ∧ ((queued [] [reply]).link.outbound = [reply] ∧ reply.isRestart = false ∧ (queued [] [reply]).link.inbound = [])
      ∧ ((queued [ask] (List.replicate 4 reply)).link.inbound = [ask] ∧ (List.replicate 3 reply).length < 4
        ∧ ∀ q ∈ List.replicate 3 reply, q.isRestart = false)
      ∧ [(0 : Byte)] ≠ [] ∧ (queued [] [restartReply, reply]).link.outbound = [⟨0xFE, 2, [0x00]⟩, reply] :=
  ⟨by decide +kernel, idle_of rfl, by decide +kernel⟩

/-- `Arm.claimKept` as a computation. -/
def claimOk (x : Arm) : Bool :=
  match x.status with
  | .idle => x.claim == none
  | .fault => x.claim == none
  | .segment g => x.claim == some g.bay && x.reach.contains g.bay
  | .resumeWait _ _ => x.claim.any x.reach.contains

theorem claims_of {s : State} (h : ∀ a : ArmId, claimOk (s.arm a) = true) : ClaimsKept s := by
  intro a
  have := h a
  revert this
  unfold claimOk Arm.claimKept
  cases (s.arm a).status <;> cases (s.arm a).claim <;> simp

/-- An option that holds what is asked. -/
theorem any_some {α : Type} {x : Option α} {p : α → Prop} [DecidablePred p] (h : x.any (fun n => decide (p n)) = true) :
    ∃ n, x = some n ∧ p n := by
  cases x with
  | none => simp at h
  | some n => exact ⟨n, rfl, by simpa using h⟩

/-- What a slot's RESERVED or OPEN note is. -/
def liveNote : NoteSlot → Option Note
  | .free => none
  | .reserved n => some n
  | .opened n => some n
  | .sealed _ => none

/-- `VisitsKept` as a computation, part by part. -/
theorem visits_of {s : State} (h1 : (s.orders.map (·.orderNo)).Nodup) (h2 : s.permits.Pairwise (fun p q => p.card < q.card))
    (h3 : ∀ b, (s.bay b).boundOrder.isSome = (s.bay b).state.visited)
    (h4 : ∀ b, (s.bay b).boundOrder.all (fun n => (s.order? n).any fun o => decide (o.state ≠ .posted ∧ o.bay = some b)) = true)
    (h5 : ∀ p ∈ s.permits, p.boundOrder.all (fun n => (s.order? n).any fun o => decide (o.state ≠ .posted ∧ o.card = p.card)) = true)
    (h6 : ∀ o ∈ s.orders, o.state ≠ .posted ∧ (∃ b, o.bay = some b ∧ (s.bay b).boundOrder = some o.orderNo)
      ∧ (s.permit? o.card).any (fun p => decide (p.boundOrder = some o.orderNo)) = true)
    (h7 : ∀ o ∈ s.orders, ∀ k, o.noteSlot = some k → o.state = .loading
      ∧ (liveNote (s.slot k)).any (fun n => decide (n.orderNo = o.orderNo ∧ n.card = o.card)) = true)
    (h8 : ∀ k, (liveNote (s.slot k)).all (fun n => (s.order? n.orderNo).any fun o => decide (o.noteSlot = some k)) = true)
    (h9 : s.referrals = []) (h10 : ∀ b, (s.bay b).state ≠ .authorizing) : VisitsKept s := by
  have live : ∀ k n, liveNote (s.slot k) = some n ↔ s.slot k = .reserved n ∨ s.slot k = .opened n := by
    intro k n
    cases s.slot k <;> simp [liveNote]
  refine ⟨h1, h2, h3, ?_, ?_, ?_, ?_, ?_, by simp [h9], fun b => by simp [h9, h10]⟩
  · intro b n hn
    have := h4 b
    rw [hn] at this
    exact any_some (by simpa using this)
  · intro p hp n hn
    have := h5 p hp
    rw [hn] at this
    exact any_some (by simpa using this)
  · intro o ho
    obtain ⟨a, b, c⟩ := h6 o ho
    simp only [OrderStands, a, if_false]
    exact ⟨b, any_some (by simpa using c)⟩
  · intro o ho k hk
    obtain ⟨a, b⟩ := h7 o ho k hk
    obtain ⟨n, hn, q⟩ := any_some b
    exact ⟨a, n, (live k n).1 hn, q⟩
  · intro k n hn
    have := h8 k
    rw [(live k n).2 hn] at this
    exact any_some (by simpa using this)

/-- `CacheKept` at a state with one entry, in slot 0, pinned by arm 0's segment, and no wants. -/
theorem cache_of {s : State} {x : Entry} {g : Segment} (h1 : s.cache.recency = [0]) (h2 : s.entry 0 = some x)
    (h3 : ∀ e, e ≠ 0 → s.entry e = none) (h4 : s.seg? 0 = some g) (h5 : g.entry = some 0) (h6 : ∀ a, a ≠ 0 → s.seg? a = none)
    (h7 : x.pinCount = 1) (h8 : x.meter = 0) (h9 : s.cache.wants = []) (h10 : g.wantTimer = none) : CacheKept s := by
  have only : ∀ e y, s.entry e = some y → e = 0 ∧ y = x := by
    intro e y hy
    by_cases h : e = 0
    · subst h; rw [h2] at hy; cases hy; exact ⟨rfl, rfl⟩
    · rw [h3 e h] at hy; cases hy
  have seg : ∀ a h, s.seg? a = some h → a = 0 ∧ h = g := by
    intro a h hh
    by_cases k : a = 0
    · subst k; rw [h4] at hh; cases hh; exact ⟨rfl, rfl⟩
    · rw [h6 a k] at hh; cases hh
  refine ⟨by simp [h1], ?_, ?_, ?_, ?_, by simp [h9], by simp [h9], ?_⟩
  · intro e
    by_cases h : e = 0
    · subst h; simp [h1, h2]
    · simp [h1, h, h3 e h]
  · intro e f y z he hf _ _ _ _ _
    rw [(only e y he).1, (only f z hf).1]
  · intro e y he
    obtain ⟨rfl, rfl⟩ := only e y he
    exact ⟨by omega, ⟨fun _ => ⟨0, g, h4, h5⟩, fun _ => h7⟩, fun _ => h7⟩
  · intro a h e hh he
    obtain ⟨rfl, rfl⟩ := seg a h hh
    rw [h5] at he
    cases he
    exact ⟨x, h2, h8⟩
  · intro a h hh ht
    obtain ⟨rfl, rfl⟩ := seg a h hh
    simp [h10] at ht

/-- Card 7's visit with its segment on arm 0, its note in slot 0, and the pinned entry in the recency list. -/
def visitKept (note : NoteSlot) (g : Segment) : State :=
  let s := withSlot note [] { loading .loading g with
    orders := [{ order100 .loading (line1 .active) with noteSlot := some 0 }] }
  { s with cache := { s.cache with recency := [0] } }

theorem visits_visitKept : VisitsKept (visitKept (.opened note100) (segFlow .high)) := by
  apply visits_of <;> decide +kernel

theorem cache_visitKept : CacheKept (visitKept (.opened note100) (segFlow .high)) := by
  apply cache_of (x := entry1200) (g := segFlow .high) <;> decide +kernel

theorem witness_WarmRestartKeepsAndSettles :
    let s := visitKept (.opened note100) (segFlow .high)
    ClaimsKept s ∧ VisitsKept s ∧ CacheKept s
      ∧ (∀ a g, s.seg? a = some g → ∃ o, s.order? g.orderNo = some o ∧ o.state = .loading)
      ∧ s.permit? 7 = some permit7 ∧ s.permit? 8 = none ∧ s.slot 0 = .opened note100 ∧ s.slot 47 = .free := by
  refine ⟨claims_of (by decide +kernel), visits_visitKept, cache_visitKept, ?_, by decide +kernel⟩
  intro a g hg
  have h := of_all_segs (s := visitKept (.opened note100) (segFlow .high)) (p := fun g => g.orderNo = 100) (by decide +kernel) a g hg
  exact ⟨{ order100 .loading (line1 .active) with noteSlot := some 0 }, by rw [h]; decide +kernel, rfl⟩

theorem witness_PermitPut :
    State.reset.linkIdle ∧ (1 ≤ 1 ∧ 1 ≤ 4294967294 ∧ 0 ≤ 1 ∧ 65535 ≤ 65535 ∧ 1023 < 1024 ∧ 65535 ≤ 65535)
      ∧ (∀ x ∈ (some 999999 : Option Nat), 1 ≤ x ∧ x ≤ 999999) ∧ (∀ x ∈ (some 1 : Option Nat), 1 ≤ x ∧ x ≤ 999999)
      ∧ (∀ x ∈ (none : Option Nat), 1 ≤ x ∧ x ≤ 999999)
      ∧ (State.reset.permit? 4294967294 = none ∧ State.reset.permits.length < 512)
      ∧ (State.permit? { State.reset with permits := List.replicate 512 permit7 } 8 = none
        ∧ 512 ≤ (List.replicate 512 permit7).length)
      ∧ State.permit? { State.reset with permits := [{ permit7 with state := .retiring }] } 7
        = some { permit7 with state := .retiring }
      ∧ (State.permit? { State.reset with permits := [{ permit7 with state := .locked }] } 7
          = some { permit7 with state := .locked } ∧ PermitState.locked ≠ .retiring) :=
  ⟨idle_of rfl, by decide +kernel⟩

/-- A PERMIT PUT that each test of R3 refuses. -/
theorem witness_PermitPut_bad_value :
    State.reset.linkIdle ∧ ∀ q ∈ ([(0, 0, 0, 0, 0, 1), (4294967295, 0, 0, 0, 0, 1), (7, 2, 0, 0, 0, 1), (7, 255, 0, 0, 0, 1),
        (7, 0, 1024, 0, 0, 1), (7, 0, 65535, 0, 0, 1), (7, 0, 0, 1, 0, 1), (7, 0, 0, 65535, 65534, 1), (7, 0, 0, 0, 0, 0),
        (7, 0, 0, 0, 0, 1000000), (7, 0, 0, 0, 0, 4294967294)] : List (Nat × Nat × Nat × Nat × Nat × Nat)),
      let card := q.1; let code := q.2.1; let classes := q.2.2.1; let first := q.2.2.2.1; let last := q.2.2.2.2.1
      let allowance := q.2.2.2.2.2
      card ≤ 4294967295 ∧ code ≤ 255 ∧ classes ≤ 65535 ∧ first ≤ 65535 ∧ last ≤ 65535 ∧ allowance ≤ 4294967295
        ∧ (card = 0 ∨ card = 4294967295 ∨ 1 < code ∨ 1023 < classes ∨ last < first ∨ allowance = 0
          ∨ (999999 < allowance ∧ allowance ≠ 4294967295)) := ⟨idle_of rfl, by decide +kernel⟩

/-- Reset with card 7's permit in a state. -/
def holding (st : PermitState) (order : Option Nat) : State :=
  { State.reset with permits := [{ permit7 with state := st, boundOrder := order }] }

theorem witness_PermitStateRequests :
    (holding .active none).linkIdle ∧ State.reset.permit? 7 = none
      ∧ (∀ st ∈ [PermitState.active, .suspended, .locked, .retiring], ∀ o ∈ [none, some 100],
          (holding st o).permit? 7 = some { permit7 with state := st, boundOrder := o }) := ⟨idle_of rfl, by decide +kernel⟩

/-- Reset with the permits of cards 7 and 9. -/
def twoPermits : State := { State.reset with permits := [permit7, { permit7 with card := 9 }] }

theorem witness_PermitReads :
    twoPermits.linkIdle ∧ twoPermits.permits.Pairwise (fun p q => p.card < q.card) ∧ 7 ≤ 4294967295
      ∧ cardIdValid 7 = true ∧ twoPermits.permit? 7 = some permit7 ∧ cardIdValid 8 = true ∧ twoPermits.permit? 8 = none
      ∧ ({ permit7 with card := 9 } ∈ twoPermits.permits ∧ 8 ≤ 9
        ∧ ∀ q ∈ twoPermits.permits, 8 ≤ q.card → 9 ≤ q.card)
      ∧ ∀ p ∈ twoPermits.permits, p.card < 10 := ⟨idle_of rfl, by decide +kernel⟩

theorem witness_PermitChecksAndCharges :
    let p := { permit7 with allowance := some 30000, used := 21450, reserved := 6000 }
    permit7.allowance = none ∧ p.allowance = some 30000 ∧ p.used + p.reserved + (2550000 + 999) / 1000 ≤ 30000
      ∧ (30000 < p.used + p.reserved + (5000000 + 999) / 1000 ∧ p.used + p.reserved + 2550 = 30000 ∧ 100 ≤ 2550)
      ∧ ({ p with used := 23901 }.allowance = some 30000 ∧ 30000 < 23901 + 6000 + (5000000 + 999) / 1000 ∧ 30000 < 23901 + 6000 + 100)
      ∧ p.strikes < 2 ∧ ({ p with strikes := 2 }.strikes = 2 ∧ (PermitState.active = .active ∨ PermitState.active = .suspended))
      ∧ { p with strikes := 2, state := .retiring }.state = .retiring
      ∧ ({ p with strikes := 3, state := .locked }.strikes = 3
        ∧ ({ p with strikes := 3, state := .locked }.state = .locked
          ∨ { p with strikes := 3, state := .locked }.state = .retiring)) := by decide +kernel

theorem witness_OrderPost :
    State.reset.linkIdle ∧ (1 ≤ 999999 ∧ 999999 ≤ 999999) ∧ (1 ≤ 4294967294 ∧ 4294967294 ≤ 4294967294)
      ∧ (∀ b ∈ (some 7 : Option Nat), b ≤ 7)
      ∧ (let lines : List LineBody := [⟨1, 1, 100, 0, 0xFFFF⟩, ⟨8, 9999, 99999, 1, 255⟩]
        1 ≤ lines.length ∧ lines.length ≤ 8 ∧ (lines.map (·.compartment)).Nodup
          ∧ ∀ l ∈ lines, 1 ≤ l.compartment ∧ l.compartment ≤ 8 ∧ 1 ≤ l.product ∧ l.product ≤ 9999 ∧ 100 ≤ l.presetL
            ∧ l.presetL ≤ 99999 ∧ l.basisCode ≤ 1 ∧ (l.recipeCode = 0xFFFF ∨ (1 ≤ l.recipeCode ∧ l.recipeCode ≤ 255)))
      ∧ (State.reset.order? 100 = none ∧ State.reset.orders.length < 64)
      ∧ (visit .carded .bound (line1 .opened)).order? 100 ≠ none
      ∧ (State.order? { State.reset with orders := List.replicate 64 posted100 } 101 = none
        ∧ 64 ≤ (List.replicate 64 posted100).length) := ⟨idle_of rfl, by decide +kernel⟩

/-- An ORDER POST that each test of R23 refuses. -/
theorem witness_OrderPost_bad_value :
    State.reset.linkIdle ∧ (∀ no ∈ [0, 1000000, 4294967295], no ≤ 4294967295 ∧ (no = 0 ∨ 999999 < no))
      ∧ (∀ card ∈ [0, 4294967295], card ≤ 4294967295 ∧ (card = 0 ∨ card = 4294967295))
      ∧ (∀ bay ∈ [8, 254], bay ≤ 255 ∧ 7 < bay ∧ bay ≠ 0xFF)
      ∧ (∀ lines ∈ [List.replicate 9 (⟨1, 1, 100, 0, 0xFFFF⟩ : LineBody), List.replicate 23 ⟨1, 1, 100, 0, 0xFFFF⟩],
          lines.length ≤ 23 ∧ 8 < lines.length)
      ∧ (let lines : List LineBody := [⟨1, 1, 100, 0, 0xFFFF⟩, ⟨1, 2, 100, 0, 0xFFFF⟩]; ¬ (lines.map (·.compartment)).Nodup)
      ∧ ∀ l ∈ [(⟨0, 1, 100, 0, 0xFFFF⟩ : LineBody), ⟨9, 1, 100, 0, 0xFFFF⟩, ⟨1, 0, 100, 0, 0xFFFF⟩, ⟨1, 10000, 100, 0, 0xFFFF⟩,
          ⟨1, 1, 99, 0, 0xFFFF⟩, ⟨1, 1, 100000, 0, 0xFFFF⟩, ⟨1, 1, 100, 2, 0xFFFF⟩, ⟨1, 1, 100, 0, 0⟩, ⟨1, 1, 100, 0, 256⟩,
          ⟨255, 65535, 4294967295, 255, 65534⟩],
        (l.compartment ≤ 255 ∧ l.product ≤ 65535 ∧ l.presetL ≤ 4294967295 ∧ l.basisCode ≤ 255 ∧ l.recipeCode ≤ 65535)
          ∧ (l.compartment = 0 ∨ 8 < l.compartment ∨ l.product = 0 ∨ 9999 < l.product ∨ l.presetL < 100 ∨ 99999 < l.presetL
            ∨ 1 < l.basisCode ∨ l.recipeCode = 0 ∨ (255 < l.recipeCode ∧ l.recipeCode ≠ 0xFFFF)) := ⟨idle_of rfl, by decide +kernel⟩

theorem witness_OrderGetAndCancel :
    State.reset.linkIdle ∧ State.reset.order? 100 = none
      ∧ (State.orders { State.reset with orders := [{ posted100 with orderNo := 99 }, posted100] }
          = [{ posted100 with orderNo := 99 }] ++ posted100 :: [] ∧ posted100.orderNo = 100
        ∧ ∀ q ∈ [{ posted100 with orderNo := 99 }], q.orderNo ≠ 100)
      ∧ State.order? { State.reset with orders := [posted100] } 100 = some posted100
      ∧ (visit .loading .loading (line1 .opened)).order? 100 = some (order100 .loading (line1 .opened))
      ∧ (visit .carded .bound (line1 .opened)).order? 100 = some (order100 .bound (line1 .opened))
      ∧ (order100 .bound (line1 .opened)).bay = some 0
      ∧ ((visit .carded .bound (line1 .opened)).bay 0).closePending = false := ⟨idle_of rfl, by decide +kernel⟩

/-- The bay 0 visit with a note in slot 0. -/
def visitNoted (note : NoteSlot) : State :=
  withSlot note [] { visit .carded .loading (line1 .filled) with
    orders := [{ order100 .loading (line1 .filled) with noteSlot := some 0 }] }

theorem witness_VisitCloses :
    (visitNoted (.opened note100)).linkIdle ∧ ((visitNoted (.opened note100)).bay 0).state = .carded
      ∧ ((visitNoted (.opened note100)).bay 0).boundOrder = some 100
      ∧ (visitNoted (.opened note100)).order? 100 = some { order100 .loading (line1 .filled) with noteSlot := some 0 }
      ∧ OrderState.loading ≠ .posted ∧ (order100 .loading (line1 .filled)).bay = some 0
      ∧ (((visitNoted (.opened note100)).modBay 0 fun x => { x with cardIdleTimer := some 1 }).bay 0).cardIdleTimer ≠ none
      ∧ (some (0 : SlotId)) ≠ none
      ∧ (visitNoted (.reserved note100)).slot 0 = .reserved note100 ∧ (visitNoted (.opened note100)).slot 0 = .opened note100
      ∧ (order100 .bound (line1 .opened)).noteSlot = none ∧ State.reset.order? 100 = none
      ∧ State.order? { State.reset with orders := [posted100] } 100 = some posted100 := ⟨idle_of rfl, by decide +kernel⟩

theorem witness_VisitCloses_no_segment :
    ∀ st ∈ [BayState.carded, .loading, .hold, .tripped], let s := visit st .loading (line1 .part)
      s.linkIdle ∧ (s.bay 0).boundOrder = some 100 ∧ s.order? 100 = some (order100 .loading (line1 .part)) ∧ (s.bay 0).state = st
        ∧ ∀ a g, s.seg? a = some g → g.bay ≠ 0 := by
  intro st h
  refine ⟨idle_of rfl, by revert st; decide +kernel, by revert st; decide +kernel, by revert st; decide +kernel,
    of_all_segs (by revert st; decide +kernel)⟩

theorem witness_VisitCloses_closing :
    ∀ st ∈ [BayState.loading, .hold, .tripped], let s := loading st (segFlow .high)
      s.linkIdle ∧ (s.bay 0).boundOrder = some 100 ∧ s.order? 100 = some (order100 .loading (line1 .active)) ∧ (s.bay 0).state = st
        ∧ s.seg? 0 = some (segFlow .high) ∧ (segFlow .high).bay = 0
        ∧ ∀ a g, s.seg? a = some g → g.bay = 0 → g.phase ≠ .awaitProfile ∧ g.phase ≠ .awaitInjector := by
  intro st h
  refine ⟨idle_of rfl, by revert st; decide +kernel, by revert st; decide +kernel, by revert st; decide +kernel,
    by revert st; decide +kernel, rfl, ?_⟩
  have key : ∀ a g, (loading st (segFlow .high)).seg? a = some g → g.phase ≠ .awaitProfile ∧ g.phase ≠ .awaitInjector :=
    of_all_segs (by revert st; decide +kernel)
  exact fun a g hg _ => key a g hg

/-- A segment that waits for its profile, and one that waits for a second injector with an entry pinned and a claim granted. -/
def segWaiting : Segment := { segIn .awaitProfile with wantTimer := some 1 }
def segClaiming : Segment :=
  { segIn .awaitInjector with injectorTimer := some 1, entry := some 0, calSerial := some 77, claims := [claim0] }

/-- The visit with a waiting segment on arm 0, alone or beside a flowing one on arm 1, injector 0 claimed. -/
def acquiringAt (g : Segment) (beside : Bool) : State :=
  (if beside then loading2 g (segFlow .high) else loading .loading g).modInjector 0 fun _ =>
    { inj .claimed with claimant := some ⟨0, 1⟩ }

theorem uncounted_acquiringAt : ∀ g ∈ [segWaiting, segClaiming], ∀ beside,
    Uncounted 0 g (order100 .loading (line1 .active)) (line1 .active) permit7 (acquiringAt g beside) := by
  intro g h beside
  unfold Uncounted NoWaiterFor
  revert g beside
  decide +kernel

theorem alone_acquiringAt : ∀ g ∈ [segWaiting, segClaiming], ∀ beside,
    ∀ c h, c ≠ 0 → (acquiringAt g beside).seg? c = some h → h.bay = 0 → h.phase ≠ .awaitProfile ∧ h.phase ≠ .awaitInjector := by
  intro g hg beside
  have key : ∀ c : ArmId, c ≠ 0 → ((acquiringAt g beside).seg? c).all
      (fun h => decide (h.phase ≠ .awaitProfile ∧ h.phase ≠ .awaitInjector)) = true := by
    revert g beside; decide +kernel
  intro c h hc hh _
  have := key c hc
  rw [hh] at this
  simpa using this

theorem witness_VisitCloses_acquiring :
    ∀ g ∈ [segWaiting, segClaiming], ∀ beside, let s := acquiringAt g beside
      s.linkIdle ∧ (s.bay 0).boundOrder = some 100 ∧ s.order? 100 = some (order100 .loading (line1 .active))
        ∧ (s.bay 0).state = .loading ∧ Uncounted 0 g (order100 .loading (line1 .active)) (line1 .active) permit7 s ∧ g.bay = 0
        ∧ (g.phase = .awaitProfile ∨ g.phase = .awaitInjector)
        ∧ (∀ c h, c ≠ 0 → s.seg? c = some h → h.bay = 0 → h.phase ≠ .awaitProfile ∧ h.phase ≠ .awaitInjector)
        ∧ ((s.seg? 1).isSome = beside) := by
  intro g h beside
  refine ⟨idle_of (by cases beside <;> rfl), by revert g beside; decide +kernel, by revert g beside; decide +kernel,
    by revert g beside; decide +kernel, uncounted_acquiringAt g h beside, by revert g; decide +kernel, by revert g; decide +kernel,
    alone_acquiringAt g h beside, by revert g beside; decide +kernel⟩

theorem witness_BayOpenAndClose :
    (visit .carded .bound (line1 .opened)).linkIdle
      ∧ (∀ st ∈ [BayState.closed, .ending, .carded, .idle, .authorizing], ((visiting st State.reset).bay 0).state = st)
      ∧ (∀ st ∈ [BayState.carded, .hold, .tripped], let s := visit st .bound (line1 .opened)
        (s.bay 0).state = st ∧ (s.bay 0).boundOrder = some 100 ∧ s.order? 100 = some (order100 .bound (line1 .opened))
          ∧ (order100 .bound (line1 .opened)).state = .bound ∧ s.segArms 0 = [] ∧ s.waitArms 0 = []) :=
  ⟨idle_of rfl, by decide +kernel⟩

theorem witness_BayGet : State.reset.linkIdle := idle_of rfl

/-- The bay 0 visit in HOLD under host flag 0. -/
def heldByHost : State := (visit .hold .bound (line1 .opened)).modBay 0 fun x => { x with holdFlags := 1 }

/-- The bay 0 visit in HOLD under host flag 0, its window running, with arm 0 waiting for compartment 1. -/
def heldWaiting (line : Line) (p : Permit) (cal : Bool) : State :=
  ({ visit .hold .bound line with permits := [p], settings := { State.reset.settings with cal := cal } }.modBay 0 fun x =>
    { x with holdFlags := 1, holdWindow := some 1 }).modArm 0 fun x => { x with status := .resumeWait 100 1, claim := some 0 }

theorem witness_HoldFlags :
    (loading .loading (segFlow .high)).linkIdle
      ∧ (∀ st ∈ [BayState.closed, .idle, .authorizing, .ending], ((visiting st State.reset).bay 0).state = st)
      ∧ (((visit .carded .bound (line1 .opened)).bay 0).state = .carded
        ∧ ((visit .carded .bound (line1 .opened)).bay 0).permitted = true ∧ (0x80 : Byte) ≠ 0)
      ∧ (((loading .loading (segFlow .high)).bay 0).state = .loading ∧ ((loading .loading (segFlow .high)).bay 0).permitted = true
        ∧ (loading .loading (segFlow .high)).acquiringArms 0 = [])
      ∧ ((heldByHost.bay 0).state = .hold ∧ (heldByHost.bay 0).holdWindow = none ∧ heldByHost.segArms 0 = []
        ∧ allHealthy (heldByHost.bay 0).inputs = true ∧ (heldByHost.bay 0).holdFlags ≠ 0
        ∧ (heldByHost.bay 0).holdFlags &&& ~~~(1 : Byte) = 0 ∧ (heldByHost.bay 0).boundOrder = some 100
        ∧ heldByHost.order? 100 = some (order100 .bound (line1 .opened))
        ∧ ∃ l ∈ (order100 .bound (line1 .opened)).lines, l.state = .opened ∨ l.state = .part)
      ∧ (let s := (loading .hold (segFlow .pausing)).modBay 0 fun x => { x with holdFlags := 1, holdWindow := some 1 }
        (s.bay 0).state = .hold ∧ s.waitArms 0 = [] ∧ s.segArms 0 = [0] ∧ allHealthy (s.bay 0).inputs = true
          ∧ (s.bay 0).holdFlags ≠ 0 ∧ (s.bay 0).holdFlags &&& ~~~(1 : Byte) = 0
          ∧ s.order? 100 = some (order100 .loading (line1 .active))) := ⟨idle_of rfl, by decide +kernel⟩

/-- R45, log 10: arm 0's resume ends NO_RECIPE and leaves the bay CARDED, arm 1's is refused, and the CARDED entry follows. -/
theorem test_restore_enters_carded_last :
    let gone := { line1 .opened with recipe := some 13 }
    let used := { line1 .part with compartment := 2, segmentsUsed := 4 }
    let s := (heldWaiting gone permit7 false).modArm 1 fun x => { x with status := .resumeWait 100 2, claim := some 0 }
    let t := after (.holdClear 0x33 [0, 1]) { s.setEntry 0 (some { entry1200 with pinCount := 0 }) with
      orders := [{ order100 .bound gone with lines := [gone, used] }] }
    t.outputs = [.prompt 0 (.loading 0), .prompt 0 (.stopped 0 .noRecipe), .prompt 0 (.select 2),
        .prompt 0 (.refused .lineDone), .prompt 0 (.select 2)]
      ∧ (t.bay 0).state = .carded := by decide +kernel

theorem witness_HoldFlags_resume :
    let suspended : Permit := { permit7 with state := .suspended }
    let used4 : Line := { line1 .part with segmentsUsed := 4 }
    (∀ q ∈ [(used4, permit7, false), (line1 .opened, suspended, false), (line1 .part, permit7, true), (line1 .opened, permit7, false)],
      let s := heldWaiting q.1 q.2.1 q.2.2
      (s.bay 0).state = .hold ∧ allHealthy (s.bay 0).inputs = true ∧ (s.bay 0).holdFlags = 1 ∧ (s.bay 0).holdWindow ≠ none
        ∧ (s.bay 0).boundOrder = some 100 ∧ s.order? 100 = some (order100 .bound q.1) ∧ s.waitArms 0 = [0]
        ∧ (s.arm 0).status = .resumeWait 100 q.1.compartment ∧ (order100 .bound q.1).line? q.1.compartment = some q.1
        ∧ (∃ l ∈ (order100 .bound q.1).lines, l.state = .opened ∨ l.state = .part)
        ∧ s.permit? 7 = some q.2.1 ∧ s.settings.cal = q.2.2 ∧ 0 ∈ (s.arm 0).reach ∧ 0 < s.remainder 100 q.1
        ∧ q.1.product ∈ (s.arm 0).products ∧ q.2.1.endorsements.getLsbD (q.1.product / 1000) = true)
      ∧ 4 ≤ used4.segmentsUsed ∧ (line1 .opened).segmentsUsed < 4 ∧ suspended.state ≠ .active
      ∧ StartPasses 0 0 (order100 .bound (line1 .opened)) (line1 .opened) permit7 ⟨5000000, 5000, false⟩
          (heldWaiting (line1 .opened) permit7 false)
      ∧ permit7.used ≤ 9999999 ∧ (heldWaiting (line1 .opened) permit7 false).notes.nextSerial ≠ none := by
  refine ⟨by decide +kernel, by decide, by decide, by decide, ?_, by decide, by decide +kernel⟩
  unfold StartPasses
  decide +kernel

/-- Card 7 referred at bay 0, with order 100 posted for it. -/
def referred (permits : List Permit) : State :=
  ({ State.reset with permits := permits, orders := [posted100] }).joinReferral 0 7

theorem witness_ReferralRequests :
    (referred []).linkIdle ∧ 4294967295 ≤ 4294967295 ∧ (State.reset.bay 0).state ≠ .authorizing
      ∧ ((referred []).bay 0).state = .authorizing ∧ (referred []).order? 101 = none
      ∧ (referred []).order? 100 = some posted100 ∧ posted100.state = .posted ∧ ((referred []).bay 0).card = some posted100.card
      ∧ (((referred []).modBay 0 fun x => { x with card := some 8 }).bay 0).card ≠ some posted100.card
      ∧ cardInCheck ((referred []).permit? 7) (referred []).clock.day = some .noPermit
      ∧ (referred [{ permit7 with boundOrder := none }]).permit? 7 = some { permit7 with boundOrder := none }
      ∧ cardInCheck (some { permit7 with boundOrder := none }) 0 = none ∧ ((referred []).bay 0).permitted = true
      ∧ (∃ l ∈ posted100.lines, l.state = .opened) ∧ ((referred []).bay 0).referralTimer ≠ none := ⟨idle_of (by decide +kernel), by decide +kernel⟩

theorem witness_BayTimersExpire :
    (State.reset.bay 0).cardIdleTimer = none ∧ (State.reset.bay 0).holdWindow = none
      ∧ (let s := (visit .carded .bound (line1 .opened)).modBay 0 fun x => { x with cardIdleTimer := some 1 }
        (s.bay 0).state = .carded ∧ (s.bay 0).cardIdleTimer ≠ none ∧ (s.bay 0).boundOrder = some 100
          ∧ s.order? 100 = some (order100 .bound (line1 .opened)) ∧ (order100 .bound (line1 .opened)).noteSlot = none
          ∧ (s.bay 0).closePending = false)
      ∧ (let s := ((visit .hold .loading (line1 .part)).modBay 0 fun x => { x with holdWindow := some 1 }).modArm 0 fun x =>
          { x with status := .resumeWait 100 1, claim := some 0 }
        (s.bay 0).state = .hold ∧ (s.bay 0).holdWindow ≠ none ∧ (s.arm 0).waitsFor 0 = true) := by decide +kernel

/-- Bay 0 IDLE with order 100 posted and card 7's free permit, in a mode. -/
def waitingForCard (m : Mode) : State :=
  ({ State.reset with
      permits := [{ permit7 with boundOrder := none }], orders := [posted100]
      settings := { State.reset.settings with mode := m } }).modBay 0 fun x => { x with state := .idle }

theorem witness_CardFrame :
    (1 ≤ 7 ∧ 7 ≤ 4294967294)
      ∧ (∀ st ∈ [BayState.closed, .authorizing, .carded, .loading, .hold, .tripped, .ending],
          ((visiting st State.reset).bay 0).state = st ∧ st ≠ .idle)
      ∧ (((waitingForCard .standalone).bay 0).state = .idle
        ∧ cardInCheck ((waitingForCard .standalone).permit? 8) (waitingForCard .standalone).clock.day = some .noPermit)
      ∧ (State.permit? { waitingForCard .standalone with orders := [] } 7 = some { permit7 with boundOrder := none }
        ∧ ∀ o ∈ ([] : List Order), (o.state == .posted) = false)
      ∧ cardInCheck ((waitingForCard .referred).permit? 7) (waitingForCard .referred).clock.day = none
      ∧ (waitingForCard .referred).settings.mode = .referred ∧ (waitingForCard .standalone).settings.mode = .standalone
      ∧ ((waitingForCard .standalone).permit? 7 = some { permit7 with boundOrder := none }
        ∧ cardInCheck (some { permit7 with boundOrder := none }) (waitingForCard .standalone).clock.day = none
        ∧ (waitingForCard .standalone).orders = [] ++ posted100 :: []
        ∧ (posted100.state == .posted && posted100.card == 7 && (posted100.bayPref == none || posted100.bayPref == some 0)) = true
        ∧ ((waitingForCard .standalone).bay 0).permitted = true ∧ ∃ l ∈ posted100.lines, l.state = .opened) := by decide +kernel

theorem witness_PanelFrames :
    ((State.reset.bay 0).state = .closed ∨ (State.reset.bay 0).state = .idle)
      ∧ (((visiting .ending State.reset).bay 0).state = .ending) ∧ ((referred []).bay 0).state = .authorizing
      ∧ (∀ st ∈ [BayState.carded, .idle], let s := visiting st State.reset
        (s.bay 0).state = st ∧ (∀ g, s.seg? 0 = some g → g.bay ≠ 0) ∧ (s.arm 0).waitsFor 0 = false) := by
  refine ⟨by decide +kernel, by decide +kernel, by decide +kernel, ?_⟩
  intro st h
  have none : (visiting st State.reset).seg? 0 = none := by revert st; decide +kernel
  refine ⟨by revert st; decide +kernel, ?_, by revert st; decide +kernel⟩
  intro g hg
  rw [none] at hg
  cases hg

/-- R33, R39: a CARD frame and a STOP for an arm that serves no bay restart the idle timer of a CARDED bay. -/
theorem test_carded_frames_restart_timer : ∀ c ∈ [Instr.card 0 9, .stop 0 5],
    ((after c ((visit .carded .bound (line1 .opened)).modBay 0 fun x => { x with cardIdleTimer := some 3 })).bay 0).cardIdleTimer
      = some 600000 := by decide +kernel

/-- A visit with compartment 1 waiting, its profile in slot 0, and its order with a note in slot 0. -/
def startable (bay : BayState) (note : Option SlotId) (profile : Option Entry) : State :=
  { (visit bay .bound (line1 .opened)).setEntry 0 profile with
    orders := [{ order100 .bound (line1 .opened) with noteSlot := note }] }

/-- A start at bay 0, arm 0, compartment 1 that passes the checks, and the lookup it makes. -/
def startHyps (s : State) (o : Order) (l : Line) (hit : Option EntryId) : Prop :=
  ((s.bay 0).state = .carded ∨ (s.bay 0).state = .loading) ∧ (s.arm 0).status = .idle
    ∧ StartPasses 0 0 o l permit7 ⟨5000000, 5000, false⟩ s ∧ s.cache.lookup 0 l.product = hit

/-- The startable visit with a line that asks for recipe 12, whose components are of classes 3 and 4; injector 1 alone is IDLE,
of class 3. -/
def startableWith (bay : BayState) (line : Line) : State :=
  let s := { startable bay none (some { entry1200 with pinCount := 0 }) with orders := [order100 .bound line] }
  ({ s with dosing := { s.dosing with recipes := [⟨12, [⟨3, 500, true⟩, ⟨4, 100, false⟩]⟩] } }).modInjector 1 fun _ => inj .idle

theorem witness_StartAccepted :
    let line := { line1 .opened with recipe := some 12 }
    let gone := { line1 .opened with recipe := some 13 }
    let pick := fun c : Component => if c.cls = 3 then some (1 : InjId) else none
    let cs : List Component := [⟨3, 500, true⟩, ⟨4, 100, false⟩]
    startHyps (startable .carded none none) (order100 .bound (line1 .opened)) (line1 .opened) none
      ∧ startHyps (startable .loading (some 0) (some { entry1200 with pinCount := 0 }))
          { order100 .bound (line1 .opened) with noteSlot := some 0 } (line1 .opened) (some 0)
      ∧ startHyps (startableWith .carded line) (order100 .bound line) line (some 0)
      ∧ startHyps (startableWith .loading gone) (order100 .bound gone) gone (some 0)
      ∧ permit7.used ≤ 9999999 ∧ (startable .carded none none).linkIdle
      ∧ snapshotAt (startableWith .carded line) line = some cs ∧ snapshotAt (startableWith .carded gone) gone = none
      ∧ cs.length ≤ 3 ∧ (cs.map (·.cls)).Nodup ∧ (∀ c ∈ cs, 1 ≤ c.cls ∧ c.cls ≤ 15)
      ∧ Picks (startableWith .carded line) 0 ⟨3, 500, true⟩ (pick ⟨3, 500, true⟩)
      ∧ Picks (startableWith .carded line) 0 ⟨4, 100, false⟩ (pick ⟨4, 100, false⟩) := by
  refine ⟨?_, ?_, ?_, ?_, by decide, idle_of rfl, by decide +kernel, by decide +kernel, by decide, by decide, by decide, ?_, ?_⟩
  iterate 4 unfold startHyps StartPasses; decide +kernel
  · show (_ ∧ _ ∧ _) ∧ ∀ i, i < 1 → ¬ (_ ∧ _ ∧ _)
    decide +kernel
  · show ∀ j, ¬ (_ ∧ _ ∧ _)
    decide +kernel

/-- Bay 0 LOADING with order 100, whose line is in a state, arm 0 free and its permit changed. -/
def refusing (line : Line) (products : List Nat) (p : Permit) (cal : Bool) : State :=
  { (visit .loading .loading line).modArm 0 fun x => { x with products := products } with
    permits := [p], settings := { State.reset.settings with cal := cal } }

theorem witness_StartRefused :
    let s := refusing (line1 .opened) [1200] permit7 true
    let o := order100 .loading (line1 .opened)
    s.linkIdle ∧ (∀ a g, s.seg? a = some g → g.bay ≠ 0)
      ∧ (∀ st ∈ [BayState.hold, .tripped, .closed, .idle, .authorizing, .ending, .carded], ((visiting st s).bay 0).state = st)
      ∧ (s.bay 0).state = .loading ∧ 0 ∉ (s.arm 23).reach ∧ (State.reset.arm 0).products = []
      ∧ 0 ∈ (s.arm 0).reach ∧ (s.arm 0).products ≠ []
      ∧ ((s.modArm 0 fun x => { x with status := .fault }).arm 0).status = .fault
      ∧ (s.modArm 0 fun x => { x with status := .segment { segIn .high with bay := 1 } }).seg? 0 ≠ none
      ∧ ((s.modArm 0 fun x => { x with status := .resumeWait 100 1 }).arm 0).status = .resumeWait 100 1
      ∧ (s.arm 0).status = .idle ∧ s.boundOrder? 0 = some o ∧ o.line? 8 = none
      ∧ (order100 .loading (line1 .active)).line? 1 = some (line1 .active)
      ∧ (order100 .loading (line1 .spent)).line? 1 = some (line1 .spent) ∧ (line1 .spent).state = .spent
      ∧ ((line1 .part).state ≠ .active ∧ s.remainder 100 { line1 .part with presetL := 0 } = 0)
      ∧ o.line? 1 = some (line1 .opened) ∧ 0 < s.remainder 100 (line1 .opened) ∧ 1200 ∉ [(1201 : Nat)]
      ∧ 1200 ∈ (s.arm 0).products ∧ s.permit? 7 = some permit7
      ∧ ((refusing (line1 .opened) [1200] { permit7 with validUntil := 0 } false).permit? 7
          = some { permit7 with validUntil := 0 } ∧ 0 < 1)
      ∧ permit7.validFrom ≤ s.clock.day ∧ s.clock.day ≤ permit7.validUntil
      ∧ { permit7 with endorsements := 0 }.endorsements.getLsbD (1200 / 1000) = false
      ∧ permit7.endorsements.getLsbD (1200 / 1000) = true ∧ s.settings.cal = true := by
  exact ⟨idle_of rfl, of_all_segs (by decide +kernel), by decide +kernel⟩

/-- A refusable start whose note store has no FREE slot, or no serial left. -/
def refusingNotes (x : NoteSlot) (serial : Option Nat) : State :=
  { refusing (line1 .opened) [1200] permit7 false with notes := ⟨Vector.replicate 48 x, [], serial⟩ }

theorem witness_StartRefused_notes :
    let p := { permit7 with allowance := some 99 }
    (∀ q ∈ [(NoteSlot.sealed note100, some 1), (.free, none), (.free, some 1)], let s := refusingNotes q.1 q.2
      s.linkIdle ∧ (s.bay 0).state = .loading ∧ (s.arm 0).status = .idle ∧ s.settings.cal = false
        ∧ s.boundOrder? 0 = some (order100 .loading (line1 .opened)) ∧ 0 < s.remainder 100 (line1 .opened)
        ∧ s.permit? 7 = some permit7)
      ∧ (order100 .loading (line1 .opened)).noteSlot = none
      ∧ (∀ k, (refusingNotes (.sealed note100) (some 1)).slot k ≠ .free)
      ∧ (∃ k, (refusingNotes .free none).slot k = .free) ∧ (refusingNotes .free none).notes.nextSerial = none
      ∧ (refusing (line1 .opened) [1200] p false).permit? 7 = some p
      ∧ p.reservation ((refusing (line1 .opened) [1200] p false).remainder 100 (line1 .opened)) = none := by
  refine ⟨?_, by decide +kernel⟩
  intro q h
  refine ⟨idle_of rfl, ?_⟩
  revert q
  decide +kernel

/-- The bay's own segment, and an ARM START that names no bay, arm or compartment. -/
theorem witness_StartRefused_own :
    (loading .loading (segFlow .high)).linkIdle ∧ (1 ≤ 1 ∧ 8 ≤ 8)
      ∧ ((loading .loading (segFlow .high)).seg? 0 = some (segFlow .high) ∧ (segFlow .high).bay = 0)
      ∧ ∀ q ∈ [(8, 0, 1), (255, 0, 1), (0, 24, 1), (0, 255, 1), (0, 0, 0), (0, 0, 9), (0, 0, 255)],
        q.1 ≤ 255 ∧ q.2.1 ≤ 255 ∧ q.2.2 ≤ 255 ∧ (7 < q.1 ∨ 23 < q.2.1 ∨ q.2.2 = 0 ∨ 8 < q.2.2) :=
  ⟨idle_of rfl, by decide +kernel⟩

theorem witness_StopSegment :
    (loading .loading (segFlow .high)).linkIdle
      ∧ (∀ ph ∈ [Phase.lowStart, .high, .lowStop, .pausing, .closing],
          (loading .loading (segFlow ph)).seg? 0 = some (segFlow ph) ∧ ((loading .loading (segFlow ph)).bay 0).state ≠ .carded)
      ∧ (let s := State.reset.modArm 0 fun x => { x with status := .resumeWait 100 1, claim := some 0 }
        (s.arm 0).status = .resumeWait 100 1 ∧ (s.arm 0).claim = some 0)
      ∧ (State.reset.arm 0).status = .idle ∧ ((State.reset.modArm 0 fun x => { x with status := .fault }).arm 0).status = .fault :=
  ⟨idle_of rfl, by decide +kernel⟩

theorem witness_ArmRequests :
    State.reset.linkIdle ∧ (let ps := [1, 9999, 2, 3]
      1 ≤ ps.length ∧ ps.length ≤ 4 ∧ ps.Nodup ∧ ∀ p ∈ ps, 1 ≤ p ∧ p ≤ 9999)
      ∧ (State.reset.arm 0).status = .idle ∧ (State.reset.arm 0).claim = none ∧ (6 : BayId).val + 1 < 8
      ∧ ((loading .loading (segFlow .high)).arm 0).status ≠ .idle
      ∧ ((State.reset.modArm 0 fun x => { x with status := .fault }).arm 0).status = .fault
      ∧ State.reset.att.edges.arm ≠ .onset := ⟨idle_of rfl, by decide +kernel⟩

/-- Bays and products that each test of R52 refuses, beside ones that it accepts. -/
theorem witness_ArmRequests_bad_value :
    State.reset.linkIdle ∧ (24 ≤ 255 ∧ 23 < 24)
      ∧ (∀ bays ∈ [[0], [7], [6, 7], [1, 0]], (∀ x ∈ bays, x ≤ 255) ∧
          ((∃ x ∈ bays, bays = [x] ∧ x ≤ 7) ∨ ∃ x ∈ bays, ∃ y ∈ bays, bays = [x, y] ∧ x ≤ 7 ∧ y ≤ 7 ∧ (x + 1 = y ∨ y + 1 = x)))
      ∧ (∀ bays ∈ [[], [8], [255], [0, 2], [7, 8], [3, 3], [0, 1, 2]], (∀ x ∈ bays, x ≤ 255) ∧
          ¬ ((∃ x, bays = [x] ∧ x ≤ 7) ∨ ∃ x y, bays = [x, y] ∧ x ≤ 7 ∧ y ≤ 7 ∧ (x + 1 = y ∨ y + 1 = x)))
      ∧ ∀ products ∈ [[], [1, 2, 3, 4, 5], [7, 7], [0], [10000], [65535]], (∀ p ∈ products, p ≤ 65535)
        ∧ 3 + 2 * products.length ≤ 245
        ∧ (products = [] ∨ 4 < products.length ∨ ¬ products.Nodup ∨ ∃ p ∈ products, p = 0 ∨ 9999 < p) := by
  refine ⟨idle_of rfl, by decide, by decide, ?_, by decide⟩
  intro bays h
  simp only [List.mem_cons, List.not_mem_nil, or_false] at h
  rcases h with rfl | rfl | rfl | rfl | rfl | rfl | rfl
  all_goals
    refine ⟨by decide, ?_⟩
    rintro (⟨x, hx, h1⟩ | ⟨x, y, hx, h1, h2, h3⟩) <;> simp at hx <;> omega

theorem witness_PermissiveChange :
    (State.reset.bay 0).inputs.ground = true ∧ (State.reset.bay 0).inputs.estop = !false
      ∧ (∀ st ∈ [BayState.closed, .idle, .authorizing, .ending, .carded, .loading, .hold],
          ((visiting st State.reset).bay 0).state = st)
      ∧ ((visit .carded .bound (line1 .opened)).bay 0).permitted = true
      ∧ (∀ i ∈ [Permissive.overfill, .estop], inputLevel ((loading .loading (segFlow .pausing)).bay 0).inputs i = true)
      ∧ (loading .loading (segFlow .pausing)).acquiringArms 0 = [] := by decide +kernel

/-- The bay 0 visit TRIPPED by its ESTOP input, with host flags. -/
def trippedBy (line : Line) (flags : Byte) : State :=
  (visit .tripped .loading line).modBay 0 fun x => { x with inputs := { x.inputs with estop := false }, holdFlags := flags }

theorem witness_PermissiveChange_tripped :
    (∀ q ∈ [(line1 .part, (0 : Byte)), (line1 .part, 1), (line1 .filled, 0)], let s := trippedBy q.1 q.2
      (s.bay 0).state = .tripped ∧ inputLevel (s.bay 0).inputs .estop = !true
        ∧ allHealthy (setLevel .estop true (s.bay 0).inputs) = true ∧ (s.bay 0).boundOrder = some 100
        ∧ s.order? 100 = some (order100 .loading q.1) ∧ (s.bay 0).holdFlags = q.2)
      ∧ (∀ a g, (trippedBy (line1 .part) 1).seg? a = some g → g.bay ≠ 0)
      ∧ (∀ a g, (trippedBy (line1 .filled) 0).seg? a = some g → g.bay ≠ 0)
      ∧ allHealthy (setLevel .ground false ((trippedBy (line1 .part) 0).bay 0).inputs) = false
      ∧ (let s := loading .tripped (segFlow .closing)
        (s.bay 0).state = .tripped ∧ inputLevel (s.bay 0).inputs .vapour = !false ∧ s.seg? 0 = some (segFlow .closing)
          ∧ (segFlow .closing).bay = 0) :=
  ⟨by decide +kernel, of_all_segs (by decide +kernel), of_all_segs (by decide +kernel), by decide +kernel, by decide +kernel⟩

/-- The bay 0 visit in HOLD by its GROUND input, with hold flags and a window. -/
def heldByGround (flags : Byte) (window : Option Nat) (s : State) : State :=
  s.modBay 0 fun x => { x with inputs := { x.inputs with ground := false }, holdFlags := flags, holdWindow := window }

theorem witness_PermissiveChange_hold :
    (let s := heldByGround 1 none (visit .hold .bound (line1 .opened))
     (s.bay 0).state = .hold ∧ inputLevel (s.bay 0).inputs .ground = !true ∧ (s.bay 0).holdFlags ≠ 0)
      ∧ (let s := heldByGround 0 none (visit .hold .bound (line1 .opened))
        (s.bay 0).state = .hold ∧ inputLevel (s.bay 0).inputs .vapour = !false
          ∧ allHealthy (setLevel .vapour false (s.bay 0).inputs) = false
          ∧ inputLevel (s.bay 0).inputs .ground = !true ∧ allHealthy (setLevel .ground true (s.bay 0).inputs) = true
          ∧ (s.bay 0).holdFlags = 0 ∧ (s.bay 0).boundOrder = some 100
          ∧ s.order? 100 = some (order100 .bound (line1 .opened)) ∧ s.segArms 0 = [] ∧ (s.bay 0).holdWindow = none
          ∧ ∃ l ∈ (order100 .bound (line1 .opened)).lines, l.state = .opened ∨ l.state = .part)
      ∧ (let s := heldByGround 0 (some 1) (loading .hold (segFlow .pausing))
        (s.bay 0).state = .hold ∧ allHealthy (setLevel .ground true (s.bay 0).inputs) = true ∧ s.waitArms 0 = []
          ∧ s.segArms 0 = [0])
      ∧ (let s := loading .loading (segFlow .high)
        (s.bay 0).state = .loading ∧ (s.bay 0).permitted = true ∧ s.acquiringArms 0 = []) := by decide +kernel

/-- The state of a restoration by an input, with arm 0 waiting: its resume is refused, or passes the checks. -/
theorem witness_PermissiveChange_resume :
    let used4 : Line := { line1 .part with segmentsUsed := 4 }
    let r := fun (line : Line) (p : Permit) (cal : Bool) =>
      ((heldByGround 0 (some 1) (heldWaiting line p cal)).modBay 0 fun x =>
        { x with inputs := setLevel .ground true x.inputs }).mark (.bay 0)
    (∀ q ∈ [(used4, permit7, false), (line1 .opened, { permit7 with state := .suspended }, false), (line1 .part, permit7, true)],
      let s := r q.1 q.2.1 q.2.2
      (s.bay 0).holdWindow ≠ none ∧ s.waitArms 0 = [0] ∧ (s.arm 0).status = .resumeWait 100 q.1.compartment
        ∧ (order100 .bound q.1).line? q.1.compartment = some q.1 ∧ s.segArms 0 = [] ∧ 0 ∈ (s.arm 0).reach
        ∧ 0 < s.remainder 100 q.1 ∧ q.1.product ∈ (s.arm 0).products ∧ s.permit? 7 = some q.2.1 ∧ s.settings.cal = q.2.2)
      ∧ StartPasses 0 0 (order100 .bound (line1 .opened)) (line1 .opened) permit7 ⟨5000000, 5000, false⟩
          (r (line1 .opened) permit7 false)
      ∧ (r (line1 .opened) permit7 false).notes.nextSerial ≠ none := by
  refine ⟨by decide +kernel, ?_, by decide +kernel⟩
  unfold StartPasses
  decide +kernel

/-- R44, R45: a loss of VAPOUR at LOADING pauses the flow under the window; the input's return brings the bay back to LOADING. -/
theorem test_vapour_lost_and_back :
    let lost := after (.permissiveChange 0 .vapour false) (loading .loading (segFlow .high))
    ((lost.bay 0).state, (lost.bay 0).holdWindow, (lost.seg? 0).map (·.phase)) = (.hold, some 120000, some .pausing)
      ∧ ((after (.permissiveChange 0 .vapour true) lost).bay 0).state = .loading := by decide +kernel

theorem witness_PulsesAndSamples :
    ((loading .loading (segFlow .high)).seg? 0 = some (segFlow .high) ∧ (segFlow .high).periodTimer ≠ none)
      ∧ State.reset.seg? 0 = none
      ∧ ((loading .loading (segIn .awaitProfile)).seg? 0 = some (segIn .awaitProfile)
        ∧ (segIn .awaitProfile).periodTimer = none) := by decide +kernel

theorem witness_StagesLoseLessThanOneUnit : 0 < 1 := by decide

theorem witness_MeterAndCorrectionFactors :
    workedEntry.curve ≠ [] ∧ workedEntry.curve.Pairwise (fun p r => p.q < r.q)
      ∧ (∀ p ∈ workedEntry.curve, 99980 ≤ p.mf ∧ p.mf ≤ 100150) ∧ (∃ p ∈ workedEntry.curve, p.q = 2400)
      ∧ (workedEntry.curve = [] ++ ⟨200, 100150⟩ :: ⟨1000, 100050⟩ :: [⟨2400, 99980⟩] ∧ (200 ≤ 200 ∧ 999 < 1000))
      ∧ (2 * (100 * (-13) - (1250 : Nat) * ((1499 : Int) - 1500)).natAbs = 100
        ∧ ((1250 : Nat) * ((1499 : Int) - 1500)).natAbs ≤ (100 * (-13) : Int).natAbs)
      ∧ 2 * (100 * 11244 - (1200 : Nat) * ((2437 : Int) - 1500)).natAbs < 100 := by decide +kernel

theorem witness_PeriodComputation :
    ∀ ph ∈ [Phase.lowStart, .high, .lowStop, .closing, .pausing],
      let g := { segFlow ph with claims := if ph = .lowStart then [] else [claim0] }
      let s := loading .loading g
      s.seg? 0 = some g ∧ g.periodTimer ≠ none ∧ g.zeroRun = 0 ∧ g.closeCounter < 19
        ∧ s.segLine? g = some (line1 .active) ∧ s.segEntry? g = some entry1200
        ∧ (g.claims.map (·.index)).Nodup ∧ (g.claims.map (·.injector)).Nodup ∧ (ph ≠ .lowStart → g.claims ≠ []) := by
  decide +kernel

/-- The hypotheses of the flowing tests, with the zero-pulse run, hold age and gross that a segment brings. -/
def flowingHyps (g : Segment) : Bool :=
  let s := loading .loading g
  decide (s.seg? 0 = some g ∧ g.periodTimer ≠ none ∧ (g.phase = .lowStart ∨ g.phase = .high ∨ g.phase = .lowStop)
    ∧ g.endCause = none ∧ s.segLine? g = some (line1 .active) ∧ s.segEntry? g = some entry1200)

theorem witness_FlowingTests :
    (flowingHyps { segFlow .high with fidelityCount := 51 } = true ∧ State.reset.settings.fidelityLimit < 51)
      ∧ (flowingHyps { segFlow .high with gross := 6000001 } = true ∧ (segFlow .high).presetMl + 1000000 < min 4294967295 6000001)
      ∧ (flowingHyps { segFlow .high with lastTemp := some 0, holdAge := 120 } = true ∧ 120 ≤ 120
        ∧ (State.reset.arm 0).freshness = none)
      ∧ (flowingHyps { segFlow .high with zeroRun := 39 } = true ∧ 40 ≤ 39 + 1)
      ∧ (flowingHyps { segFlow .high with gross := 4998120 } = true ∧ (segFlow .high).presetMl - 4998120 ≤ entry1200.closeAdvance)
      ∧ (flowingHyps { segFlow .high with gross := 4998119 } = true ∧ entry1200.closeAdvance < (segFlow .high).presetMl - 4998119
        ∧ (segFlow .high).presetMl - 4998119 ≤ entry1200.slowStop)
      ∧ (flowingHyps { segFlow .lowStart with gross := 200000 } = true ∧ entry1200.slowStop < (segFlow .high).presetMl - 200000
        ∧ entry1200.lowStart ≤ 200000)
      ∧ (flowingHyps { segFlow .lowStart with gross := 199999 } = true ∧ 199999 < entry1200.lowStart) := by decide +kernel

/-- A closing segment that ends or goes on. -/
def closingSeg (run counter : Nat) : Segment :=
  { segFlow .closing with endCause := some .closed, closeRecorded := true, zeroRun := run, closeCounter := counter }

/-- A segment that pauses at a HOLD bay, at its flow end or not. -/
def pausingSeg (run counter : Nat) : Segment :=
  { segFlow .pausing with endCause := some .hold, closeRecorded := true, zeroRun := run, closeCounter := counter }

/-- The visit in HOLD with a pausing segment on arm 0 and a window. -/
def pausingAt (run counter : Nat) (window : Option Nat) : State :=
  (loading .hold (pausingSeg run counter)).modBay 0 fun x => { x with holdWindow := window }

theorem witness_FlowEndAndLeak :
    (∀ g ∈ [closingSeg 1 0, closingSeg 0 19, closingSeg 0 18], let s := loading .loading g
      s.seg? 0 = some g ∧ g.periodTimer ≠ none ∧ g.phase = .closing ∧ g.endCause = some .closed ∧ EndCause.closed ≠ .hold
        ∧ EndCause.closed ≠ .leak ∧ g.claims.length ≤ 3 ∧ s.segLine? g = some (line1 .active) ∧ s.segEntry? g = some entry1200
        ∧ (s.arm 0).counterA = 0 ∧ (s.arm 0).counterB = 0)
      ∧ (∀ q ∈ [(1, 0), (0, 19), (0, 18)], ∀ w ∈ [none, some 1], let s := pausingAt q.1 q.2 w; let g := pausingSeg q.1 q.2
        s.seg? 0 = some g ∧ g.periodTimer ≠ none ∧ g.phase = .pausing ∧ g.endCause = some .hold ∧ EndCause.hold ≠ .leak
          ∧ g.claims = [] ∧ s.segLine? g = some (line1 .active) ∧ s.segEntry? g = some entry1200 ∧ (s.bay 0).state = .hold
          ∧ (s.bay 0).boundOrder = some g.orderNo ∧ (line1 .active).segmentsUsed ≠ 4 ∧ (s.bay 0).holdWindow = w)
      ∧ (1 ≤ (closingSeg 1 0).zeroRun ∧ (closingSeg 0 19).zeroRun = 0 ∧ 19 ≤ (closingSeg 0 19).closeCounter
        ∧ (closingSeg 0 18).closeCounter < 19) := by decide +kernel

/-- R74, R76: at a HOLD bay a pausing segment's flow end leaves its arm waiting with its claim while the window runs. -/
theorem test_pausing_flow_end :
    ((after (.flowEnd 0) (pausingAt 1 0 (some 1))).arm 0).status = .resumeWait 100 1
      ∧ ((after (.flowEnd 0) (pausingAt 1 0 (some 1))).arm 0).claim = some 0
      ∧ ((after (.flowEnd 0) (pausingAt 1 0 none)).arm 0).status = .idle := by decide +kernel

/-- The visit in a state with two lines, the first being loaded by a closing segment. -/
def endingAt (st : BayState) (inputs : Permissives) (flags : Byte) : State :=
  { loading st (closingSeg 1 0) with
    orders := [{ order100 .loading (line1 .active) with lines := [line1 .active, { line1 .opened with compartment := 2 }] }] }.modBay
      0 fun x => { x with inputs := inputs, holdFlags := flags }

/-- The other segments of the bay, whatever its inputs and flags: none. -/
theorem alone_endingAt (st : BayState) (inputs : Permissives) (flags : Byte) : ¬ OtherSegment 0 0 (endingAt st inputs flags) := by
  rintro ⟨c, h, hc, hs, -⟩
  have key : (endingAt st inputs flags).seg? c = (loading .ending (closingSeg 1 0)).seg? c := rfl
  have none : ∀ c : ArmId, c ≠ 0 → (loading .ending (closingSeg 1 0)).seg? c = none := by decide +kernel
  rw [key, none c hc] at hs
  cases hs

theorem witness_FlowEndAndLeak_last :
    (∀ q ∈ [(BayState.ending, (⟨true, true, true, true⟩ : Permissives), (0 : Byte)), (.tripped, ⟨true, true, true, false⟩, 0),
        (.tripped, ⟨true, true, true, true⟩, 0), (.tripped, ⟨true, true, true, true⟩, 1), (.loading, ⟨true, true, true, true⟩, 0)],
      let s := endingAt q.1 q.2.1 q.2.2
      (s.bay 0).state = q.1 ∧ s.seg? 0 = some (closingSeg 1 0) ∧ (s.bay (closingSeg 1 0).bay).boundOrder = some 100
        ∧ (s.bay 0).inputs = q.2.1 ∧ (s.bay 0).holdFlags = q.2.2 ∧ (closingSeg 1 0).claims = []
        ∧ s.segLine? (closingSeg 1 0) = some (line1 .active) ∧ s.segEntry? (closingSeg 1 0) = some entry1200
        ∧ (s.order? 100).any (fun o => o.lines.any fun x => x.compartment != 1 && x.state == .opened) = true)
      ∧ ∀ st inputs flags, ¬ OtherSegment 0 0 (endingAt st inputs flags) := ⟨by decide +kernel, alone_endingAt⟩

/-- The last line of an order whose close is due, and a segment whose claim is released; at LOADING, HOLD and TRIPPED. -/
theorem witness_FlowEndAndLeak_due :
    (∀ st ∈ [BayState.loading, .hold, .tripped], ∀ cause ∈ [EndCause.closed, .overfill],
      let g := { closingSeg 1 0 with endCause := some cause, claims := [claim0] }
      let s := (loading st g).modInjector 0 fun _ => { inj .claimed with claimant := some ⟨0, 1⟩ }
      s.seg? 0 = some g ∧ (s.bay 0).state = st ∧ g.counted = true ∧ g.trimmed = false
        ∧ (s.bay 0).boundOrder = some 100 ∧ s.order? 100 = some (order100 .loading (line1 .active))
        ∧ (∀ x ∈ (order100 .loading (line1 .active)).lines, x.compartment ≠ 1 → x.state = .filled ∨ x.state = .spent)
        ∧ g.residueI < entry1200.kn ∧ g.residueG < 100000 ∧ (s.injector 0).state = .claimed
        ∧ (s.injector 0).settle = s.injector 0 ∧ s.dosing.queue (s.injector 0).cls = [])
      ∧ ∀ st ∈ [BayState.loading, .hold, .tripped], ¬ OtherSegment 0 0 (loading st (closingSeg 1 0)) := by
  refine ⟨by decide +kernel, ?_⟩
  rintro st hst ⟨c, h, hc, hs, -⟩
  have none : ∀ st ∈ [BayState.loading, .hold, .tripped], ∀ c : ArmId, c ≠ 0 → (loading st (closingSeg 1 0)).seg? c = none := by
    decide +kernel
  rw [none st hst c hc] at hs
  cases hs

/-- A CLOSED end beside a flowing segment, with order 100's line asking for a component of class 3, its note in slot 0. -/
def closingBeside (g : Segment) (snapshot : Option (List Component)) (x : Injector) : State :=
  (withSlot (.opened note100) [] { loading2 g (segFlow .high) with
    orders := [{ order100 .loading { line1 .active with recipe := some 12, snapshot := snapshot } with noteSlot := some 0 }] }
    ).modInjector 0 fun _ => x

theorem witness_ClosedEndSettles :
    let c : Component := ⟨3, 500, true⟩
    ∀ q ∈ [(([] : List Claim), (none : Option (List Component)), inj .idle), ([], some [c], inj .idle), ([claim0], some [c], inj .claimed),
        ([{ claim0 with pacedMl := 4294967295, doseFault := true }], some [c], inj .fault)],
      ∀ r ∈ [(EndCause.closed, false, 1, 0), (.closed, true, 1, 19), (.overfill, false, 1, 0), (.stopped, true, 2, 0),
          (.estop, false, 1, 0), (.noFlow, false, 0, 19), (.meterFault, false, 1, 0), (.tempFault, false, 1, 0),
          (.doseFault, false, 1, 0), (.calSeal, true, 0, 19)],
      let g := { closingSeg r.2.2.1 r.2.2.2 with
        net := 4294967295, postClose := 4294967295, residueI := 49999, residueG := 99999, residueN := 999999, claims := q.1
        trimmed := r.2.1, endCause := some r.1 }
      let s := closingBeside g q.2.1 q.2.2
      let l := { line1 .active with recipe := some 12, snapshot := q.2.1 }
      Quiet 0 g { order100 .loading l with noteSlot := some 0 } l 0 entry1200 permit7 s
        ∧ (1 : ArmId) ≠ 0 ∧ s.seg? 1 = some (segFlow .high) ∧ (segFlow .high).bay = g.bay ∧ (s.bay g.bay).state = .loading
        ∧ g.phase = .closing ∧ g.endCause = some r.1 ∧ r.1 ≠ .hold ∧ r.1 ≠ .leak
        ∧ (1 ≤ g.zeroRun ∨ (g.zeroRun = 0 ∧ 19 ≤ g.closeCounter)) ∧ s.slot 0 = .opened note100
        ∧ (note100.lines.map (·.compartment)).Nodup ∧ (∃ y ∈ note100.lines, y.compartment = g.compartment) := by
  unfold Quiet NoWaiterFor
  decide +kernel

/-- R18, R153: the third OVERFILL end locks the permit, spends the line and flags the note line. -/
theorem test_overfill_end : let s := { closingBeside { closingSeg 1 0 with endCause := some .overfill } none (inj .idle) with
      permits := [{ permit7 with strikes := 2 }] }
    (after (.meteringPeriodExpiry 0) s).permits.map (fun p => (p.strikes, p.state)) = [(3, .locked)]
      ∧ ((after (.meteringPeriodExpiry 0) s).line? 100 1).map (·.state) = some .spent
      ∧ ((after (.meteringPeriodExpiry 0) s).slot 0).note?.map (fun n => n.lines.map fun l => l.flags.getLsbD 6) = some [true] := by decide +kernel

theorem witness_WaitTimersExpire :
    ∀ g ∈ [segWaiting, segClaiming], ∀ beside, let s := acquiringAt g beside
      Uncounted 0 g (order100 .loading (line1 .active)) (line1 .active) permit7 s ∧ (s.bay g.bay).state = .loading ∧ s.linkIdle
        ∧ (∀ c h, c ≠ 0 → s.seg? c = some h → h.bay = 0 → h.phase ≠ .awaitProfile ∧ h.phase ≠ .awaitInjector)
        ∧ (g.wantTimer ≠ none ∨ g.injectorTimer ≠ none) ∧ (g.wantTimer = none ∨ g.injectorTimer = none)
        ∧ (g.phase = .awaitProfile ∨ g.phase = .awaitInjector) ∧ s.settings.cal = false ∧ (s.bay 0).permitted = true
        ∧ (0x80 : Byte) ≠ 0 ∧ (∀ i ∈ [Permissive.ground, .vapour, .overfill, .estop], inputLevel (s.bay 0).inputs i = true) := by
  intro g h beside
  refine ⟨uncounted_acquiringAt g h beside, by revert g beside; decide +kernel, idle_of (by cases beside <;> rfl),
    alone_acquiringAt g h beside, ?_⟩
  revert g beside
  decide +kernel

/-- The injector wait of a segment with a pinned entry and a granted claim: the pin and the claim are released (R63, R108, R141). -/
theorem test_injectorWait_releases :
    let t := after (.injectorWaitTimerExpiry 0) (acquiringAt segClaiming true)
    (t.entry 0).map (·.pinCount) = some 0 ∧ (t.injector 0).state = .idle ∧ (t.bay 0).state = .loading
      ∧ (t.arm 0).lastEnd.map (·.cause) = some .injectorTimeout := by decide +kernel

theorem witness_SettleEnds : 0 < (inj .claimed).shotUl ∧ (inj .claimed).state = .claimed ∧ (inj .claimed).queued = false
    ∧ (inj .claimed).firing = false := by decide +kernel

/-- An injector with a stroke firing. -/
def firing (st : InjectorState) (misses : Nat) : Injector :=
  { inj st with firing := true, confirmTimer := some 1, misses := misses, claimant := some ⟨0, 1⟩ }

theorem witness_ConfirmEdge :
    (∀ st ∈ [InjectorState.fault, .outOfService, .idle, .claimed], ((dosingWith (inj st)).injector 0).state = st
      ∧ ((dosingWith (inj st)).injector 0).firing = false ∧ ((dosingWith (inj st)).injector 0).strays < 4)
      ∧ (∀ q ∈ [false, true], ((dosingWith { firing .claimed 0 with queued := q, accNl := 999999 }).injector 0)
          = { firing .claimed 0 with queued := q, accNl := 999999 } ∧ (firing .claimed 0).firing = true
          ∧ (firing .claimed 0).claimant.map (·.arm) = some 0 ∧ 999999 < (firing .claimed 0).shotUl * 1000)
      ∧ (((dosingWith (firing .releasing 0)).injector 0).state = .releasing
        ∧ ∀ w ∈ ((dosingWith (firing .releasing 0)).setQueue 3 [⟨23, 1, 0⟩]).dosing.queue 3, w.arm ∉ (firing .releasing 0).reach)
      ∧ ((dosingWith { inj .idle with strays := 4 }).injector 0).strays = 4
      ∧ State.reset.att.edges.injector ≠ .clearance := by decide +kernel

/-- A visit whose segment holds injector 0, its stroke firing after two misses, for a component. -/
def faultingIn (ph : Phase) (mandatory : Bool) : State :=
  (loading .loading { segFlow ph with claims := [⟨0, 1, ⟨3, 500, mandatory⟩, 0, false⟩] }).modInjector 0 fun _ => firing .claimed 2

def faulting : State := faultingIn .high true

theorem witness_ConfirmTimerExpiry :
    (State.reset.injector 0).confirmTimer = none
      ∧ (let x := (dosingWith (firing .claimed 1)).injector 0
        x.state = .claimed ∧ x.confirmTimer ≠ none ∧ x.misses < 2 ∧ x.queued = false ∧ x.accNl < x.shotUl * 1000)
      ∧ (∀ q ∈ [(Phase.high, true), (.closing, true), (.high, false), (.awaitInjector, false)], let s := faultingIn q.1 q.2
        (s.injector 0).state = .claimed ∧ (s.injector 0).confirmTimer ≠ none ∧ (s.injector 0).misses = 2
          ∧ (s.injector 0).claimant = some ⟨0, 1⟩
          ∧ (s.seg? 0).map (fun g => (g.phase, g.claims)) = some (q.1, [⟨0, 1, ⟨3, 500, q.2⟩, 0, false⟩])
          ∧ [(⟨0, 1, ⟨3, 500, q.2⟩, 0, false⟩ : Claim)].find? (·.index == 1) = some ⟨0, 1, ⟨3, 500, q.2⟩, 0, false⟩
          ∧ (q.2 = false ∨ q.1 ≠ .awaitInjector))
      ∧ (((dosingWith (firing .releasing 2)).injector 0).state = .releasing ∧ (firing .releasing 2).confirmTimer ≠ none
        ∧ (firing .releasing 2).misses = 2)
      ∧ ((firing .releasing 1).misses < 2 ∧ ∀ w ∈ ((dosingWith (firing .releasing 1)).setQueue 3 [⟨23, 1, 0⟩]).dosing.queue 3,
        w.arm ∉ (firing .releasing 1).reach) := by decide +kernel

/-- The uncounted segment in AWAIT_INJECTOR that holds injector 0 for a mandatory component, its stroke overdue or absent. -/
def acquiringWith (x : Injector) : State := (acquiringAt segClaiming false).modInjector 0 fun _ => x

theorem witness_ClaimFaults :
    ∀ x ∈ [firing .claimed 2, { inj .claimed with strays := 4, claimant := some ⟨0, 1⟩ }], let s := acquiringWith x
      (s.injector 0) = x ∧ x.state = .claimed ∧ ((x.confirmTimer ≠ none ∧ x.misses = 2) ∨ (x.firing = false ∧ x.strays = 4))
        ∧ x.claimant = some ⟨0, 1⟩ ∧ s.seg? 0 = some segClaiming ∧ segClaiming.claims.find? (·.index == 1) = some claim0
        ∧ claim0.component.mandatory = true ∧ segClaiming.phase = .awaitInjector
        ∧ Uncounted 0 segClaiming (order100 .loading (line1 .active)) (line1 .active) permit7 s
        ∧ (s.bay segClaiming.bay).state = .loading := by
  unfold Uncounted NoWaiterFor
  decide +kernel

/-- The fifth stray of an injector CLAIMED by a flowing segment, or for an optional component. -/
theorem witness_ConfirmEdge_claimed :
    ∀ q ∈ [(Phase.high, true), (.closing, true), (.awaitInjector, false)],
      let s := (faultingIn q.1 q.2).modInjector 0 fun _ => { inj .claimed with strays := 4, claimant := some ⟨0, 1⟩ }
      (s.injector 0).state = .claimed ∧ (s.injector 0).firing = false ∧ (s.injector 0).strays = 4
        ∧ (s.injector 0).claimant = some ⟨0, 1⟩
        ∧ (s.seg? 0).map (fun g => (g.phase, g.claims)) = some (q.1, [⟨0, 1, ⟨3, 500, q.2⟩, 0, false⟩])
        ∧ (q.2 = false ∨ q.1 ≠ .awaitInjector) := by decide +kernel

/-- R63, R139: the third miss of a mandatory component's injector in AWAIT_INJECTOR ends the segment uncounted, and the fifth stray
does. -/
theorem test_acquiring_fault :
    (((after (.injectorFault 0 .miss) (acquiringWith (firing .claimed 2))).arm 0).lastEnd.map fun e => (e.cause, e.counted))
        = some (.doseFault, false)
      ∧ (((after (.confirmEdge 0) (acquiringWith { inj .claimed with strays := 4, claimant := some ⟨0, 1⟩ })).arm 0).lastEnd.map
        fun e => (e.cause, e.counted)) = some (.doseFault, false) := by decide +kernel

/-- Arms 23 and 0 wait for class 3; injector 0 is IDLE and reaches arm 0 alone. -/
def granting : State :=
  (((loading .loading (segIn .awaitInjector)).modLine 100 1 fun l => { l with recipe := some 12, snapshot := some [⟨3, 500, true⟩] })
    |>.setQueue 3 [⟨23, 1, 0⟩, ⟨0, 1, 0⟩]).modInjector 0 fun _ => inj .idle

theorem witness_GrantServesOldestInReach :
    (granting.injector 0).state = .idle ∧ 1 ≤ (granting.injector 0).cls ∧ (granting.injector 0).cls ≤ 15
      ∧ granting.dosing.queue (granting.injector 0).cls = [⟨23, 1, 0⟩] ++ ⟨0, 1, 0⟩ :: []
      ∧ (∀ v ∈ [(⟨23, 1, 0⟩ : Waiter)], v.arm ∉ (granting.injector 0).reach) ∧ 0 ∈ (granting.injector 0).reach
      ∧ granting.seg? 0 = some (segIn .awaitInjector)
      ∧ (granting.segLine? (segIn .awaitInjector)).bind (·.snapshot) = some [⟨3, 500, true⟩]
      ∧ [(⟨3, 500, true⟩ : Component)][1 - 1]? = some ⟨3, 500, true⟩ := by decide +kernel

/-- Arm 0 waits with a snapshot and claims, in its queue behind an arm out of reach, while injector 0 is not yet free. -/
def waitingWith (claims : List Claim) : Segment :=
  { segIn .awaitInjector with entry := some 0, calSerial := some 77, injectorTimer := some 1, claims := claims }

def grantingFrom (cs : List Component) (index : Nat) (claims : List Claim) (x : Injector) : State :=
  let s := (loading .loading (waitingWith claims)).setQueue 3 [⟨23, 1, 0⟩, ⟨0, index, 0⟩]
  let line := { line1 .active with recipe := some 12, snapshot := some cs }
  ({ s with orders := [{ order100 .loading line with noteSlot := some 0 }] }).modInjector 0 fun _ => x

theorem witness_GrantServesOldestInReach_command :
    ∀ q ∈ [([(⟨3, 500, true⟩ : Component)], 1, ([] : List Claim)),
        ([⟨4, 100, true⟩, ⟨3, 500, true⟩, ⟨5, 1, true⟩], 2, [⟨7, 1, ⟨4, 100, true⟩, 0, false⟩, ⟨8, 3, ⟨5, 1, true⟩, 0, false⟩]),
        ([⟨4, 100, true⟩, ⟨3, 500, true⟩], 2, [])],
      ∀ x ∈ [{ firing .releasing 1 with claimant := none }, { inj .fault with misses := 3 }, inj .idle, inj .outOfService],
      let s := grantingFrom q.1 q.2.1 q.2.2 x
      let g := waitingWith q.2.2
      let l := { line1 .active with recipe := some 12, snapshot := some q.1 }
      s.linkIdle ∧ s.injector 0 = x ∧ s.dosing.queue 3 = [⟨23, 1, 0⟩] ++ ⟨0, q.2.1, 0⟩ :: []
        ∧ (23 : ArmId) ∉ x.reach ∧ 0 ∈ x.reach ∧ x.cls = 3
        ∧ (s.bay g.bay).state = .loading ∧ 1 ≤ q.2.1 ∧ q.1[q.2.1 - 1]? = some ⟨3, 500, true⟩ ∧ (g.claims.map (·.index)).Pairwise (· < ·)
        ∧ q.2.1 ∉ g.claims.map (·.index) ∧ ((x.state = .releasing ∧ x.confirmTimer ≠ none ∧ x.misses < 2)
          ∨ (x.state = .fault ∧ x.claimant = none) ∨ x.state = .idle ∨ x.state = .outOfService)
        ∧ Uncounted 0 g { order100 .loading l with noteSlot := some 0 } l permit7 s := by
  intro q hq x hx
  refine ⟨idle_of rfl, by revert q x; decide +kernel, by revert q x; decide +kernel, by revert q x; decide +kernel,
    by revert q x; decide +kernel, by revert q x; decide +kernel, by revert q x; decide +kernel, by revert q; decide +kernel,
    by revert q; decide +kernel, by revert q; decide +kernel, by revert q; decide +kernel, by revert x; decide +kernel, ?_⟩
  unfold Uncounted NoWaiterFor
  revert q x
  decide +kernel

/-- R128, R131, R64: the CLEAR of a free FAULT injector grants it to arm 0, whose segment goes on to LOW_START. -/
theorem test_injectorClear_grants :
    let t := after (.injectorClear 0x33 [0]) (withSlot (.reserved { note100 with opening := none, lines := [] }) []
      (grantingFrom [⟨3, 500, true⟩] 1 [] (inj .fault)))
    (t.injector 0).claimant = some ⟨0, 1⟩ ∧ (t.seg? 0).map (·.phase) = some .lowStart ∧ t.dosing.queue 3 = [⟨23, 1, 0⟩] := by
  decide +kernel

theorem witness_InjectorRequests :
    State.reset.linkIdle ∧ (1 ≤ 15 ∧ 15 ≤ 15 ∧ 1 ≤ 1 ∧ 100 ≤ 100 ∧ 1000000 ≤ 1000000)
      ∧ (let arms : List ArmId := [0, 1, 2, 3, 4, 5, 6, 23]
        1 ≤ arms.length ∧ arms.length ≤ 8 ∧ arms.Nodup)
      ∧ (∀ st ∈ [InjectorState.claimed, .releasing, .fault, .idle, .outOfService], ((dosingWith (inj st)).injector 0).state = st
        ∧ ((dosingWith (inj st)).injector 0).claimant = none ∧ ((dosingWith (inj st)).injector 0).reach = [0])
      ∧ ((dosingWith (firing .fault 3)).injector 0).claimant ≠ none ∧ State.reset.dosing.queue 15 = []
      ∧ State.reset.settings.cal = false ∧ (refusing (line1 .opened) [] permit7 true).settings.cal = true
      ∧ State.reset.att.edges.injector ≠ .onset := ⟨idle_of rfl, by decide +kernel⟩

/-- Operands that each test of R126 and R127 refuses, a waiter out of the new reach, and a claimant with its claim. -/
theorem witness_InjectorRequests_more :
    State.reset.linkIdle
      ∧ (∀ q ∈ [(16, 1, [0], 0), (255, 1, [0], 0), (0, 0, [0], 0), (0, 16, [0], 0), (0, 255, [0], 1), (0, 1, [], 1),
          (0, 1, List.range 9, 1), (0, 1, [5, 5], 1), (0, 1, [24], 1), (0, 1, [255], 1), (0, 1, [0], 2), (0, 1, [0], 255)],
        q.1 ≤ 255 ∧ q.2.1 ≤ 255 ∧ q.2.2.2 ≤ 255 ∧ q.2.2.1.length ≤ 244 ∧ (∀ a ∈ q.2.2.1, a ≤ 255)
          ∧ (15 < q.1 ∨ q.2.1 = 0 ∨ 15 < q.2.1 ∨ q.2.2.1 = [] ∨ 8 < q.2.2.1.length ∨ ¬ q.2.2.1.Nodup ∨ (∃ a ∈ q.2.2.1, 23 < a)
            ∨ 1 < q.2.2.2))
      ∧ (∀ shot ∈ [0, 99, 1000001, 4294967295], shot ≤ 4294967295 ∧ (shot < 100 ∨ 1000000 < shot))
      ∧ (let s := (dosingWith (inj .outOfService)).setQueue 3 [⟨5, 1, 0⟩]
        (s.injector 0).state = .outOfService ∧ ∀ w ∈ s.dosing.queue 3, w.arm ∉ [(0 : ArmId), 23])
      ∧ (let s := (dosingWith (inj .fault)).setQueue 3 [⟨5, 1, 0⟩]
        (s.injector 0).state = .fault ∧ (s.injector 0).claimant = none
          ∧ ∀ w ∈ s.dosing.queue (s.injector 0).cls, w.arm ∉ (s.injector 0).reach)
      ∧ (∀ st ∈ [InjectorState.claimed, .fault], let s := (acquiringAt segClaiming false).modInjector 0 fun _ =>
          { inj st with claimant := some ⟨0, 1⟩, reach := [0, 23] }
        (s.injector 0).reach.length ≤ 8 ∧ (s.injector 0).claimant = some ⟨0, 1⟩ ∧ s.seg? 0 = some segClaiming
          ∧ segClaiming.claims.find? (·.index == 1) = some claim0) := ⟨idle_of rfl, by decide +kernel⟩

/-- Reset with recipe 12, or with 32 recipes. -/
def withRecipes (rs : List Recipe) : State := { State.reset with dosing := { State.reset.dosing with recipes := rs } }

theorem witness_RecipeRequests :
    State.reset.linkIdle ∧ (1 ≤ 255 ∧ 255 ≤ 255)
      ∧ (let cs : List Component := [⟨1, 1, true⟩, ⟨15, 20000, false⟩, ⟨2, 5, true⟩]
        1 ≤ cs.length ∧ cs.length ≤ 3 ∧ (cs.map (·.cls)).Nodup ∧ ∀ c ∈ cs, 1 ≤ c.cls ∧ c.cls ≤ 15 ∧ 1 ≤ c.dose ∧ c.dose ≤ 20000)
      ∧ (State.reset.dosing.recipes.find? (·.id == 255) = none ∧ State.reset.dosing.recipes.length < 32)
      ∧ ((withRecipes (List.replicate 32 ⟨12, []⟩)).dosing.recipes.find? (·.id == 255) = none
        ∧ 32 ≤ (withRecipes (List.replicate 32 ⟨12, []⟩)).dosing.recipes.length)
      ∧ (withRecipes [⟨12, []⟩]).dosing.recipes.find? (·.id == 12) = some ⟨12, []⟩ ∧ (1 ≤ 15 ∧ 15 ≤ 15)
      ∧ RecipesKept (withRecipes [⟨1, [⟨3, 500, true⟩]⟩, ⟨255, [⟨15, 20000, false⟩]⟩]) := by
  refine ⟨idle_of rfl, by decide +kernel, by decide +kernel, by decide +kernel, by decide +kernel, by decide +kernel,
    by decide, ?_⟩
  unfold RecipesKept
  decide +kernel

/-- Components that each test of R122 refuses. -/
theorem witness_RecipeRequests_bad_value :
    State.reset.linkIdle ∧ (∀ id ∈ [0, 16, 255], id ≤ 255 ∧ (id = 0 ∨ 15 < id))
      ∧ ∀ cs ∈ ([[], [(1, 1, 0), (2, 1, 0), (3, 1, 0), (4, 1, 0)], [(3, 1, 0), (3, 2, 1)], [(0, 1, 0)], [(16, 1, 0)], [(1, 0, 0)],
          [(1, 20001, 0)], [(1, 1, 2)], [(255, 65535, 255)]] : List (List (Nat × Nat × Nat))),
        cs.length ≤ 61 ∧ (∀ c ∈ cs, c.1 ≤ 255 ∧ c.2.1 ≤ 65535 ∧ c.2.2 ≤ 255)
          ∧ (cs = [] ∨ 3 < cs.length ∨ ¬ (cs.map (·.1)).Nodup
            ∨ ∃ c ∈ cs, c.1 = 0 ∨ 15 < c.1 ∨ c.2.1 = 0 ∨ 20000 < c.2.1 ∨ 1 < c.2.2) := ⟨idle_of rfl, by decide +kernel⟩

/-- A fact about every profile entry, read off each slot. -/
theorem of_all_entries {es : Vector (Option Entry) 12} {p : Entry → Prop} [DecidablePred p]
    (h : ∀ e : EntryId, (es[e]).all (fun x => decide (p x)) = true) : ∀ (e : EntryId) (x : Entry), es[e] = some x → p x := by
  intro e x hx
  have := h e
  rw [hx] at this
  simpa using this

theorem witness_LookupFindsSmallestSpan :
    (∀ (e : EntryId) (x : Entry), (loading .loading (segFlow .high)).cache.entries[e] = some x → x.span ≤ 3)
      ∧ (loading .loading (segFlow .high)).cache.lookup 0 1200 = some 0
      ∧ (loading .loading (segFlow .high)).cache.lookup 1 1200 = none := ⟨of_all_entries (by decide +kernel), by decide +kernel⟩

/-- A cache full of profiles of meter 1 with a pin count. -/
def fullCache (pins : Nat) : State :=
  { State.reset with cache := ⟨Vector.replicate 12 (some { entry1200 with meter := 1, pinCount := pins }), allEntries, []⟩ }

/-- Profile slot 0 valid and in the recency list, pinned by no segment. -/
def oneProfile (x : Entry) : State := State.reset.writeEntry 0 x

theorem witness_ProfileLoad :
    State.reset.linkIdle ∧ (23 ≤ 23 ∧ 1 ≤ 9999 ∧ 9999 ≤ 9999 ∧ 3 ≤ 3 ∧ 9000 % 10 ^ 3 = 0 ∧ 2 ≤ 2 ∧ 1000 ≤ 1000
        ∧ 2000000 ≤ 2000000 ∧ 2500 ≤ 2500 ∧ 200000 ≤ 200000 ∧ 1000000 ≤ 1000000 ∧ 65535 ≤ 65535 ∧ 0 < 9999 ∧ 90000 ≤ 90000
        ∧ 110000 ≤ 110000) ∧ (oneProfile entry1200).cache.wants = []
      ∧ ((oneProfile entry1200).entry 0 = some entry1200 ∧ entry1200.dropping = false
        ∧ (∀ f : EntryId, f ≠ 0 → (oneProfile entry1200).entry f = none))
      ∧ (∀ a g, (oneProfile entry1200).seg? a = some g → g.entry ≠ some 0)
      ∧ (State.reset.entry 0 = none ∧ ∀ f : EntryId, ¬ f < 0)
      ∧ ((∀ f : EntryId, (fullCache 0).entry f = some { entry1200 with meter := 1, pinCount := 0 })
        ∧ (fullCache 0).cache.recency = allEntries.take 11 ++ 11 :: [])
      ∧ (∀ f : EntryId, (fullCache 1).entry f = some { entry1200 with meter := 1, pinCount := 1 }) :=
  ⟨idle_of rfl, by decide +kernel, by decide +kernel, by decide +kernel, of_all_segs (by decide +kernel), by decide +kernel,
    by decide +kernel, by decide +kernel⟩

/-- Profiles that each test of R111 refuses: a scalar out of its range, and a curve. -/
theorem witness_ProfileLoad_bad_value :
    State.reset.linkIdle ∧ (23 < 24 ∧ 24 ≤ 255) ∧ (3 < 4 ∧ 4 ≤ 255) ∧ (9999 < 10000 ∧ 10000 ≤ 65535) ∧ (1201 % 10 ^ 1 ≠ 0)
      ∧ (2 < 3 ∧ 3 ≤ 255) ∧ 999 < 1000 ∧ (2000000 < 2000001 ∧ 2000001 ≤ 4294967295) ∧ (2500 < 2501 ∧ 2501 ≤ 65535)
      ∧ (200000 < 200001 ∧ 1000000 < 1000001)
      ∧ ∀ curve ∈ ([[], [(1, 90000)], (List.range 7).map (fun n => (n, 90000)), [(1, 89999), (2, 90000)], [(1, 110001), (2, 90000)],
          [(1, 90000), (10000, 90000)], [(2, 90000), (2, 90000)], [(3, 90000), (2, 90000)]] : List (List (Nat × Nat))),
        curve.length ≤ 36 ∧ (∀ c ∈ curve, c.1 ≤ 65535 ∧ c.2 ≤ 4294967295)
          ∧ (curve.length < 2 ∨ 6 < curve.length ∨ (∃ c ∈ curve, 9999 < c.1 ∨ c.2 < 90000 ∨ 110000 < c.2)
            ∨ ¬ curve.Pairwise (fun c d => c.1 < d.1)) := ⟨idle_of rfl, by decide +kernel⟩

/-- The visit with arm 0's want for product 1200 behind one of another meter, its order with a note slot. -/
def wanting (cache : Cache) : State :=
  { loading .loading segWaiting with
    orders := [{ order100 .loading (line1 .active) with noteSlot := some 0 }]
    cache := { cache with wants := [⟨1, 1, 1200, 0⟩, ⟨0, 0, 1200, 0⟩] } }

theorem witness_ProfileLoad_want :
    (∀ cache ∈ [State.reset.cache, (fullCache 0).cache, (oneProfile { entry1200 with pinCount := 0 }).cache], let s := wanting cache
      Uncounted 0 segWaiting { order100 .loading (line1 .active) with noteSlot := some 0 } (line1 .active) permit7 s
        ∧ s.cache.wants = [⟨1, 1, 1200, 0⟩] ++ ⟨0, 0, 1200, 0⟩ :: [] ∧ (1 ≠ 0 ∧ 1200 / 10 ^ 0 = 1200 / 10 ^ 0)
        ∧ (s.bay segWaiting.bay).state = .loading ∧ segWaiting.claims = [] ∧ segWaiting.undosed = 0
        ∧ segWaiting.injectorTimer = none ∧ segWaiting.entry = none)
      ∧ (∀ a g, (wanting State.reset.cache).seg? a = some g → g.entry ≠ some 0)
      ∧ (wanting State.reset.cache).linkIdle := by
  refine ⟨?_, of_all_segs (by decide +kernel), idle_of rfl⟩
  unfold Uncounted NoWaiterFor
  decide +kernel

/-- The entry that arm 0's segment alone has pinned, overwritten in place. -/
theorem witness_ProfileLoad_pinned :
    let s := visitKept (.opened note100) (segFlow .high)
    s.linkIdle ∧ s.entry 0 = some entry1200 ∧ (∀ f : EntryId, f ≠ 0 → s.entry f = none) ∧ s.seg? 0 = some (segFlow .high)
      ∧ (segFlow .high).entry = some 0 ∧ (∀ c : ArmId, c ≠ 0 → s.seg? c = none) ∧ s.cache.wants = [] :=
  ⟨idle_of rfl, by decide +kernel⟩

/-- R112, R113: the load satisfies arm 0's want and the segment flows; a new serial in place is MIXED_CAL. -/
theorem test_profileLoad_satisfies : ((after (.profileLoad 0x33 loadBody) (withSlot (.opened note100) [] (wanting State.reset.cache))).seg?
    0).map (fun g => (g.phase, g.entry, g.calSerial)) = some (.lowStart, some 0, some 77) := by decide +kernel
theorem test_profileLoad_mixedCal : ((after (.profileLoad 0x33 (loadBody.set 28 78)) (visitKept (.opened note100) (segFlow .high))).seg?
    0).map (fun g => (g.calSerial, g.mixedCal)) = some (some 78, true) := by decide +kernel

/-- Slot 0 dropping with arm 0's segment on it, slot 1 valid under the same tag, the list beginning with slot 1. -/
def twoProfiles : State :=
  let s := (loading .loading (segFlow .high)).setEntry 0 (some { entry1200 with dropping := true })
  { s.setEntry 1 (some { entry1200 with pinCount := 0 }) with
    cache := { (s.setEntry 1 (some { entry1200 with pinCount := 0 })).cache with recency := [1, 0] } }

theorem witness_ProfileReads :
    (oneProfile entry1200).linkIdle ∧ (24 ≤ 255 ∧ 23 < 24 ∧ 4 ≤ 255 ∧ 3 < 4) ∧ (∀ e : EntryId, State.reset.entry e = none)
      ∧ ((oneProfile entry1200).entry 0 = some entry1200 ∧ ∀ f : EntryId, f ≠ 0 → (oneProfile entry1200).entry f = none)
      ∧ (entry1200.meter ≤ 23 ∧ entry1200.span ≤ 3 ∧ entry1200.base ≤ 65535)
      ∧ (entry1200.dropping = false ∧ entry1200.pinCount ≠ 0 ∧ { entry1200 with pinCount := 0 }.pinCount = 0
        ∧ { entry1200 with dropping := true }.dropping = true)
      ∧ ((oneProfile entry1200).cache.recency = [] ++ 0 :: [] ∧ (0 : EntryId) ∉ ([] : List EntryId))
      ∧ (∀ a g, (oneProfile entry1200).seg? a = some g → g.entry ≠ some 0)
      ∧ (twoProfiles.entry 0 = some { entry1200 with dropping := true } ∧ twoProfiles.entry 1 = some { entry1200 with pinCount := 0 }
        ∧ (∀ f : EntryId, 1 < f → twoProfiles.entry f = none) ∧ twoProfiles.cache.recency = [] ++ 1 :: [0])
      ∧ (twoProfiles.seg? 0 = some (segFlow .high) ∧ (segFlow .high).entry = some 0 ∧ (∀ c : ArmId, c ≠ 0 → twoProfiles.seg? c = none)
        ∧ twoProfiles.entry 0 ≠ none ∧ twoProfiles.entry 1 ≠ none) :=
  ⟨idle_of rfl, by decide, by decide +kernel, by decide +kernel, by decide +kernel, by decide +kernel, by decide +kernel,
    of_all_segs (by decide +kernel), by decide +kernel, by decide +kernel⟩

/-- R115: of two entries of one tag the one that is not dropping is read; the list gives the pinning arm of the other. -/
theorem test_profiles_of_one_tag :
    (answer (after (.profileRead 0x33 [0, 0x04, 0xB0, 0]) twoProfiles)).drop 43 = [1, 0, 0, 1, 0xFF]
      ∧ (answer (after (.profileList 0x33 []) twoProfiles)).drop 1 = [2]
        ++ [1, 0, 0x04, 0xB0, 0, 0, 0, 77, 0, 0, 0x07, 0x58, 0, 0xFF, 0] ++ [0, 0, 0x04, 0xB0, 0, 0, 0, 77, 0, 0, 0x07, 0x58, 1, 0, 1] := by
  decide +kernel

theorem witness_NoteRequests :
    let s := withSlot (.sealed note100) [0] State.reset
    s.linkIdle ∧ (8 ≤ 8 ∧ 1 ≤ 1 ∧ 4294967295 ≤ 4294967295) ∧ s.slot 1 = .free ∧ (s.slot 0).note? = some note100
      ∧ note100.lines.length < 2 ∧ note100.lines[0]? = some (freshNoteLine (line1 .active) 0)
      ∧ s.slot 0 = .sealed note100 ∧ (∀ n, (withSlot (.opened note100) [] State.reset).slot 0 ≠ .sealed n)
      ∧ (∀ i, State.reset.slot i = .free) ∧ (∃ i, s.slot i ≠ .free) ∧ SealedListKept s := by
  refine ⟨idle_of rfl, by decide +kernel, by decide +kernel, by decide +kernel, by decide +kernel, by decide +kernel,
    by decide +kernel, ?_, by decide +kernel, by decide +kernel, ?_⟩
  · intro n h
    have h' : (withSlot (.opened note100) [] State.reset).slot 0 = .opened note100 := by decide +kernel
    rw [h'] at h
    cases h
  · unfold SealedListKept
    decide +kernel

theorem witness_NoteFigures :
    (let l := { freshNoteLine (line1 .part) 0 with sumTGV := -7, sumGVT := 2 };
      0 < l.sumGVT ∧ 2 * (l.sumGVT * (-4) - l.sumTGV).natAbs = l.sumGVT ∧ l.sumTGV.natAbs ≤ ((l.sumGVT : Int) * (-4)).natAbs)
      ∧ (freshNoteLine (line1 .part) 0).sumGVT = 0 ∧ (freshNoteLine (line1 .part) 0).finalState = none := by decide +kernel

theorem witness_ClockAndRollover :
    (65535 ≤ 65535 ∧ State.reset.linkIdle) ∧ 1439 < 1440 ∧ 1439 ≤ 1439 ∧ State.reset.clock.minute < 1439
      ∧ (State.clock { State.reset with clock := ⟨65534, 1439, 0⟩ }).minute = 1439 ∧ 65534 < 65535
      ∧ (State.clock { State.reset with clock := ⟨65535, 1439, 0⟩ }).day = 65535 :=
  ⟨⟨by decide, idle_of rfl⟩, by decide +kernel⟩

theorem witness_AttentionRequests :
    State.reset.linkIdle ∧ (State.reset.mark (.slot 47)).att.marked (.slot 47) = true ∧ (2 = 2 ∧ Edge.both = .both) :=
  ⟨idle_of rfl, by decide +kernel⟩

/-- R171: 24 of the 27 marked sources are returned, in the fixed order, and the last three stay marked. -/
theorem test_attentionRead_24 :
    let s := ((List.finRange 24).foldl (fun t a => t.mark (.arm a)) (State.reset.mark (.bay 7))).mark (.slot 0) |>.mark .cal
    (answer (after (.attentionRead 0x33 []) s)).take 4 = [0, 24, 3, 0]
      ∧ (after (.attentionRead 0x33 []) s).att.marked (.arm 23) = true
      ∧ (after (.attentionRead 0x33 []) s).att.marked (.arm 22) = false := by decide +kernel

/-- R168: an END that leaves the referral list empty marks it under clearances, and not under onsets alone. -/
theorem test_endVisit_marks : ∀ e ∈ [Edge.onset, .clearance, .both], let s := referred []
    (after (.endVisit 0) { s with att := { s.att with referralMark := false, edges := { s.att.edges with referral := e } } }).att.referralMark
      = decide (e ≠ .onset) := by decide +kernel

theorem witness_SettingsAndLinkRequests :
    State.reset.linkIdle ∧ (∀ b, (State.reset.bay b).state = .idle ∨ (State.reset.bay b).state = .closed)
      ∧ (∃ b, ((visiting .ending State.reset).bay b).state ≠ .idle ∧ ((visiting .ending State.reset).bay b).state ≠ .closed)
      ∧ State.reset.settings.cal = false ∧ (refusing (line1 .opened) [] permit7 true).settings.cal = true
      ∧ (∀ q ∈ [(0, 1500), (0, 2000), (1, 1), (1, 1000)], q.1 ≤ 255 ∧ q.2 ≤ 65535
        ∧ ((q.1 = 0 ∧ (q.2 = 1500 ∨ q.2 = 2000)) ∨ (q.1 = 1 ∧ 1 ≤ q.2 ∧ q.2 ≤ 1000)))
      ∧ (∀ q ∈ [(0, 1499), (0, 65535), (1, 0), (1, 1001), (2, 1500), (255, 1)], q.1 ≤ 255 ∧ q.2 ≤ 65535
        ∧ ¬ (q.1 = 0 ∧ (q.2 = 1500 ∨ q.2 = 2000)) ∧ ¬ (q.1 = 1 ∧ 1 ≤ q.2 ∧ q.2 ≤ 1000))
      ∧ (2 ≤ 2 ∧ 255 ≤ 255) := ⟨idle_of rfl, by decide +kernel⟩

/-- A LINK GET that waits behind a full outbound list, with a frame behind it or without. -/
theorem witness_SettingsAndLinkRequests_link :
    ∀ waiting ∈ [[ask], []], let s := queued (⟨0x7B, 1, []⟩ :: waiting) (List.replicate 4 reply)
      s.link.outbound = reply :: List.replicate 3 reply ∧ (∀ q ∈ s.link.outbound, q.isRestart = false)
        ∧ s.link.inbound = ⟨0x7B, 1, []⟩ :: waiting ∧ (List.replicate 3 reply).length = 3 := by decide +kernel

theorem witness_CalInput :
    State.reset.settings.cal = false ∧ (refusing (line1 .opened) [] permit7 true).settings.cal = true
      ∧ (∀ a g, (loading .loading (segFlow .high)).seg? a = some g → g.phase ≠ .awaitProfile ∧ g.phase ≠ .awaitInjector)
      ∧ State.reset.att.edges.cal ≠ .clearance :=
  ⟨by decide +kernel, by decide +kernel, of_all_segs (by decide +kernel), by decide +kernel⟩

/-! A kept state and the step it takes, for each invariant of every step. -/

theorem witness_StepKeepsPermits : PermitsKept (loading .loading (segFlow .high))
    ∧ step (loading .loading (segFlow .high)) = .next (loading .loading (segFlow .high)).tick := by
  refine ⟨?_, rfl⟩; unfold PermitsKept; decide +kernel

theorem witness_StepKeepsOrders :
    let s := visitKept (.opened note100) (segFlow .high)
    OrdersKept s ∧ VisitsKept s ∧ step s = .next s.tick := by
  refine ⟨?_, visits_visitKept, rfl⟩; unfold OrdersKept; decide +kernel

theorem witness_StepKeepsLink : LinkKept (rx .length) ∧ step (rx .length) = .next (rx .length).tick := by
  refine ⟨?_, rfl⟩
  exact ⟨by decide, by decide, rfl, by decide, by decide, by decide, by decide, by decide, by decide⟩

theorem witness_StepKeepsClaims :
    let s := visitKept (.opened note100) (segFlow .high)
    ClaimsKept s ∧ CacheKept s ∧ step s = .next s.tick := ⟨claims_of (by decide +kernel), cache_visitKept, rfl⟩

theorem witness_StepKeepsInjectors : InjectorsKept faulting ∧ step faulting = .next faulting.tick
    ∧ RecipesKept (withRecipes [⟨1, [⟨3, 500, true⟩]⟩]) := by
  refine ⟨?_, rfl, ?_⟩
  · unfold InjectorsKept Injector.kept; decide +kernel
  · unfold RecipesKept; decide +kernel

theorem witness_StepKeepsSealedList : SealedListKept (withSlot (.sealed note100) [0] State.reset)
    ∧ step (withSlot (.sealed note100) [0] State.reset) = .next (withSlot (.sealed note100) [0] State.reset).tick := by
  refine ⟨?_, rfl⟩; unfold SealedListKept; decide +kernel

theorem witness_StepKeepsSettings : SettingsKept State.reset ∧ step State.reset = .next State.reset.tick := by
  refine ⟨?_, rfl⟩; unfold SettingsKept; decide +kernel

end Sys2Proof.Tests
end

section
/-! The profile cache's invariant over what it speaks of alone: the slots, the recency list, the wants, and for each arm the entry
that its segment holds and whether its want timer runs. Each way in which the cache changes keeps it (R103, R105, R106, R108,
R109, R112, R114). -/

namespace Sys2Proof.Machine.Arming

/-- The entry that an arm's segment holds (R106). -/
def held (s : State) (a : ArmId) : Option EntryId := (s.seg? a).bind (·.entry)

/-- The want timer of an arm's segment runs (R109). -/
def wanting (s : State) (a : ArmId) : Bool := (s.seg? a).any (·.wantTimer.isSome)

/-- The profile cache is kept under what the arms' segments hold and want. -/
structure PinsKept (entry : EntryId → Option Entry) (recency : List EntryId) (wants : List Want)
    (held : ArmId → Option EntryId) (wanting : ArmId → Bool) : Prop where
  once : recency.Nodup
  valid : ∀ e, e ∈ recency ↔ (entry e).isSome = true
  tags : ∀ e f x y, entry e = some x → entry f = some y → x.meter = y.meter → x.base = y.base → x.span = y.span →
    x.dropping = false → y.dropping = false → e = f
  pins : ∀ e x, entry e = some x →
    x.pinCount ≤ 1 ∧ (x.pinCount = 1 ↔ ∃ a, held a = some e) ∧ (x.dropping = true → x.pinCount = 1)
  meters : ∀ a e, held a = some e → ∃ x, entry e = some x ∧ x.meter = a.val
  wantOnce : (wants.map (·.arm)).Nodup
  wanted : ∀ w ∈ wants, w.meter = w.arm.val ∧ held w.arm = none ∧ wanting w.arm = true
  wanters : ∀ a, wanting a = true → ∃ w ∈ wants, w.arm = a

theorem cacheKept_iff (s : State) :
    CacheKept s ↔ PinsKept s.entry s.cache.recency s.cache.wants (held s) (wanting s) := by
  have hheld : ∀ a e, held s a = some e ↔ ∃ g, s.seg? a = some g ∧ g.entry = some e := by
    intro a e; simp [held, Option.bind_eq_some_iff]
  have hwanting : ∀ a, wanting s a = true ↔ ∃ g, s.seg? a = some g ∧ g.wantTimer.isSome = true := by
    intro a; simp [wanting, Option.any_eq_true]
  have hwant : ∀ a, (held s a = none ∧ wanting s a = true)
      ↔ ∃ g, s.seg? a = some g ∧ g.entry = none ∧ g.wantTimer.isSome = true := by
    intro a
    cases h : s.seg? a <;> simp [held, wanting, h]
  constructor
  · rintro ⟨h1, h2, h3, h4, h5, h6, h7, h8⟩
    refine ⟨h1, h2, h3, fun e x hx => ?_, fun a e ha => ?_, h6, fun w hw => ?_, fun a ha => ?_⟩
    · simpa only [hheld] using h4 e x hx
    · obtain ⟨g, hg, he⟩ := (hheld a e).1 ha
      exact h5 a g e hg he
    · exact ⟨(h7 w hw).1, (hwant w.arm).2 (h7 w hw).2⟩
    · obtain ⟨g, hg, ht⟩ := (hwanting a).1 ha
      exact h8 a g hg ht
  · rintro ⟨h1, h2, h3, h4, h5, h6, h7, h8⟩
    refine ⟨h1, h2, h3, fun e x hx => ?_, fun a g e hg he => h5 a e ((hheld a e).2 ⟨g, hg, he⟩), h6, fun w hw => ?_,
      fun a g hg ht => h8 a ((hwanting a).2 ⟨g, hg, ht⟩)⟩
    · simpa only [hheld] using h4 e x hx
    · exact ⟨(h7 w hw).1, (hwant w.arm).1 (h7 w hw).2⟩

variable {entry : EntryId → Option Entry} {recency : List EntryId} {wants : List Want} {held : ArmId → Option EntryId}
  {wanting : ArmId → Bool}

/-- An entry is held by one segment at most: the arm's number is its meter. -/
theorem PinsKept.held_unique (h : PinsKept entry recency wants held wanting) {a c : ArmId} {e : EntryId} (ha : held a = some e)
    (hc : held c = some e) : a = c := by
  obtain ⟨x, hx, hxa⟩ := h.meters a e ha
  obtain ⟨y, hy, hyc⟩ := h.meters c e hc
  rw [hx] at hy
  cases hy
  exact Fin.ext (hxa.symm.trans hyc)

/-- An entry that is not pinned is held by no segment. -/
theorem PinsKept.not_held (h : PinsKept entry recency wants held wanting) {e : EntryId} {x : Entry} (hx : entry e = some x)
    (hp : x.pinCount = 0) (a : ArmId) : held a ≠ some e := by
  intro ha
  have := (h.pins e x hx).2.1.2 ⟨a, ha⟩
  omega

/-- A valid slot moved to the front of the recency list (R105). -/
theorem PinsKept.toFront (h : PinsKept entry recency wants held wanting) {e : EntryId} (he : (entry e).isSome = true) :
    PinsKept entry (e :: recency.filter (· != e)) wants held wanting := by
  refine { h with once := ?_, valid := fun f => ?_ }
  · rw [List.nodup_cons]
    exact ⟨by simp, h.once.filter _⟩
  · rw [← h.valid f]
    by_cases hf : f = e
    · subst hf; simpa using (h.valid f).2 he
    · simp [hf]

/-- A valid slot's entry overwritten under its tag, with what the segments hold: the entry's own pin is right afterwards, and no
other entry's holder changes. -/
theorem PinsKept.overwrite (h : PinsKept entry recency wants held wanting) {e : EntryId} {x y : Entry} {held' : ArmId → Option EntryId}
    (hx : entry e = some x) (htag : y.meter = x.meter ∧ y.base = x.base ∧ y.span = x.span)
    (hdrop : y.dropping = false → x.dropping = false)
    (hpin : y.pinCount ≤ 1 ∧ (y.pinCount = 1 ↔ ∃ a, held' a = some e) ∧ (y.dropping = true → y.pinCount = 1))
    (hother : ∀ a f, f ≠ e → (held' a = some f ↔ held a = some f)) (hown : ∀ a, held' a = some e → x.meter = a.val)
    (hwant : ∀ w ∈ wants, held' w.arm = none) :
    PinsKept (Function.update entry e (some y)) recency wants held' wanting := by
  obtain ⟨hm, hb, hs⟩ := htag
  have hget : ∀ f z, Function.update entry e (some y) f = some z → ∃ w, entry f = some w ∧ z.meter = w.meter ∧ z.base = w.base
      ∧ z.span = w.span ∧ (z.dropping = false → w.dropping = false) := by
    intro f z hz
    by_cases hf : f = e
    · subst hf
      rw [Function.update_self] at hz
      cases hz
      exact ⟨x, hx, hm, hb, hs, hdrop⟩
    · rw [Function.update_of_ne hf] at hz
      exact ⟨z, hz, rfl, rfl, rfl, id⟩
  refine { h with valid := fun f => ?_, tags := fun f f' z z' hz hz' m b sp d d' => ?_, pins := fun f z hz => ?_
                  meters := fun a f ha => ?_, wanted := fun w hw => ⟨(h.wanted w hw).1, hwant w hw, (h.wanted w hw).2.2⟩ }
  · rw [h.valid f]
    by_cases hf : f = e
    · subst hf; simp [hx]
    · simp [hf]
  · obtain ⟨w, hw, m1, b1, s1, d1⟩ := hget f z hz
    obtain ⟨w', hw', m2, b2, s2, d2⟩ := hget f' z' hz'
    exact h.tags f f' w w' hw hw' (m1.symm.trans (m.trans m2)) (b1.symm.trans (b.trans b2)) (s1.symm.trans (sp.trans s2))
      (d1 d) (d2 d')
  · by_cases hf : f = e
    · subst hf
      rw [Function.update_self] at hz
      cases hz
      exact hpin
    · rw [Function.update_of_ne hf] at hz
      obtain ⟨h1, h2, h3⟩ := h.pins f z hz
      exact ⟨h1, h2.trans (exists_congr fun a => (hother a f hf).symm), h3⟩
  · by_cases hf : f = e
    · subst hf
      exact ⟨y, Function.update_self .., hm.trans (hown a ha)⟩
    · rw [Function.update_of_ne hf]
      exact h.meters a f ((hother a f hf).1 ha)

/-- An entry changed in fields other than its tag, its pin count and its dropping flag (R72). -/
theorem PinsKept.modify (h : PinsKept entry recency wants held wanting) {e : EntryId} {x y : Entry} (hx : entry e = some x)
    (htag : y.meter = x.meter ∧ y.base = x.base ∧ y.span = x.span) (hp : y.pinCount = x.pinCount)
    (hd : y.dropping = x.dropping) : PinsKept (Function.update entry e (some y)) recency wants held wanting := by
  refine h.overwrite hx htag (by rw [hd]; exact id) (by rw [hp, hd]; exact h.pins e x hx) (fun _ _ _ => Iff.rfl) (fun a ha => ?_)
    (fun w hw => (h.wanted w hw).2.1)
  obtain ⟨w, hw, hwa⟩ := h.meters a e ha
  rw [hx] at hw
  cases hw
  exact hwa

/-- A pinned entry starts to drop (R114). -/
theorem PinsKept.setDropping (h : PinsKept entry recency wants held wanting) {e : EntryId} {x : Entry} (hx : entry e = some x)
    (hp : x.pinCount = 1) : PinsKept (Function.update entry e (some { x with dropping := true })) recency wants held wanting := by
  obtain ⟨h1, h2, -⟩ := h.pins e x hx
  refine h.overwrite hx ⟨rfl, rfl, rfl⟩ (fun hd => by cases hd) ⟨h1, h2, fun _ => hp⟩ (fun _ _ _ => Iff.rfl) (fun a ha => ?_)
    (fun w hw => (h.wanted w hw).2.1)
  obtain ⟨w, hw, hwa⟩ := h.meters a e ha
  rw [hx] at hw
  cases hw
  exact hwa

/-- A slot's entry goes, and the segments hold what they held but for it (R108, R114). -/
theorem PinsKept.drop (h : PinsKept entry recency wants held wanting) {e : EntryId} {held' : ArmId → Option EntryId}
    (hfree : ∀ a, held' a ≠ some e) (hother : ∀ a f, f ≠ e → (held' a = some f ↔ held a = some f)) :
    PinsKept (Function.update entry e none) (recency.filter (· != e)) wants held' wanting := by
  have hget : ∀ f z, Function.update entry e none f = some z → f ≠ e ∧ entry f = some z := by
    intro f z hz
    by_cases hf : f = e
    · subst hf; simp at hz
    · rw [Function.update_of_ne hf] at hz
      exact ⟨hf, hz⟩
  refine { h with once := h.once.filter _, valid := fun f => ?_, tags := fun f f' z z' hz hz' => ?_, pins := fun f z hz => ?_
                  meters := fun a f ha => ?_, wanted := fun w hw => ?_ }
  · by_cases hf : f = e
    · subst hf; simp
    · simp [hf, h.valid f]
  · exact h.tags f f' z z' (hget f z hz).2 (hget f' z' hz').2
  · obtain ⟨hf, hz⟩ := hget f z hz
    obtain ⟨h1, h2, h3⟩ := h.pins f z hz
    exact ⟨h1, h2.trans (exists_congr fun a => (hother a f hf).symm), h3⟩
  · have hf : f ≠ e := fun hf => hfree a (hf ▸ ha)
    rw [Function.update_of_ne hf]
    exact h.meters a f ((hother a f hf).1 ha)
  · obtain ⟨h1, h2, h3⟩ := h.wanted w hw
    refine ⟨h1, ?_, h3⟩
    cases hh : held' w.arm with
    | none => rfl
    | some f =>
      have hf : f ≠ e := fun hf => hfree w.arm (hf ▸ hh)
      rw [(hother w.arm f hf).1 hh] at h2
      cases h2

/-- A profile written into a slot, at the front of the recency list: no other slot has its tag, and the slot's pin count stays,
0 at a slot that was invalid (R112). -/
theorem PinsKept.write (h : PinsKept entry recency wants held wanting) {e : EntryId} {y : Entry} (hd : y.dropping = false)
    (htag : ∀ f z, entry f = some z → z.meter = y.meter → z.base = y.base → z.span = y.span → z.dropping = false → f = e)
    (hpin : y.pinCount = ((entry e).map (·.pinCount)).getD 0)
    (hmeter : ∀ x, entry e = some x → x.pinCount = 1 → x.meter = y.meter) :
    PinsKept (Function.update entry e (some y)) (e :: recency.filter (· != e)) wants held wanting := by
  have hheld : y.pinCount ≤ 1 ∧ (y.pinCount = 1 ↔ ∃ a, held a = some e) := by
    cases hx : entry e with
    | none =>
      rw [hx] at hpin
      refine ⟨by simp at hpin; omega, by simp at hpin; omega, ?_⟩
      rintro ⟨a, ha⟩
      obtain ⟨x, hx', -⟩ := h.meters a e ha
      rw [hx] at hx'
      cases hx'
    | some x =>
      rw [hx] at hpin
      obtain ⟨h1, h2, -⟩ := h.pins e x hx
      simp only [Option.map_some, Option.getD_some] at hpin
      rw [hpin]
      exact ⟨h1, h2⟩
  refine { h with once := ?_, valid := fun f => ?_, tags := fun f f' z z' hz hz' m b sp d d' => ?_, pins := fun f z hz => ?_
                  meters := fun a f ha => ?_ }
  · rw [List.nodup_cons]
    exact ⟨by simp, h.once.filter _⟩
  · by_cases hf : f = e
    · subst hf; simp
    · simp [hf, h.valid f]
  · by_cases hf : f = e
    · subst hf
      rw [Function.update_self] at hz
      cases hz
      by_cases hf' : f' = f
      · exact hf'.symm
      · rw [Function.update_of_ne hf'] at hz'
        exact (htag f' z' hz' m.symm b.symm sp.symm d').symm
    · rw [Function.update_of_ne hf] at hz
      by_cases hf' : f' = e
      · subst hf'
        rw [Function.update_self] at hz'
        cases hz'
        exact htag f z hz m b sp d
      · rw [Function.update_of_ne hf'] at hz'
        exact h.tags f f' z z' hz hz' m b sp d d'
  · by_cases hf : f = e
    · subst hf
      rw [Function.update_self] at hz
      cases hz
      exact ⟨hheld.1, hheld.2, fun hdrop => by rw [hd] at hdrop; cases hdrop⟩
    · rw [Function.update_of_ne hf] at hz
      exact h.pins f z hz
  · obtain ⟨w, hw, hwa⟩ := h.meters a f ha
    by_cases hf : f = e
    · subst hf
      have hone := (h.pins f w hw).2.1.2 ⟨a, ha⟩
      exact ⟨y, by simp, (hmeter w hw hone).symm.trans hwa⟩
    · exact ⟨w, by rw [Function.update_of_ne hf, hw], hwa⟩

/-- An entry of an arm's own meter pinned to its segment, which held and wanted none (R106). -/
theorem PinsKept.pin (h : PinsKept entry recency wants held wanting) {a : ArmId} {e : EntryId} {x : Entry}
    (hx : entry e = some x) (hm : x.meter = a.val) (hheld : held a = none) (hw : wanting a = false) :
    PinsKept (Function.update entry e (some { x with pinCount := 1 })) recency wants (Function.update held a (some e))
      wanting := by
  refine h.overwrite hx ⟨rfl, rfl, rfl⟩ id ⟨le_refl 1, ⟨fun _ => ⟨a, Function.update_self ..⟩, fun _ => rfl⟩, fun _ => rfl⟩
    (fun c f hf => ?_) (fun c hc => ?_) (fun w hw' => ?_)
  · by_cases hca : c = a
    · subst hca
      simp [hheld, Ne.symm hf]
    · rw [Function.update_of_ne hca]
  · by_cases hca : c = a
    · rw [hca, hm]
    · rw [Function.update_of_ne hca] at hc
      obtain ⟨w, hw, hwc⟩ := h.meters c e hc
      rw [hx] at hw
      cases hw
      exact hwc
  · obtain ⟨-, h2, h3⟩ := h.wanted w hw'
    have hwa : w.arm ≠ a := fun hwa => by rw [hwa, hw] at h3; cases h3
    rw [Function.update_of_ne hwa, h2]

/-- The pin of an arm's segment released: a dropping entry goes, another has pin count 0 (R108). -/
theorem PinsKept.unpin (h : PinsKept entry recency wants held wanting) {a : ArmId} {e : EntryId} {x : Entry}
    (hx : entry e = some x) (hheld : held a = some e) :
    PinsKept (Function.update entry e (if x.dropping then none else some { x with pinCount := 0 }))
      (if x.dropping then recency.filter (· != e) else recency) wants (Function.update held a none) wanting := by
  have hfree : ∀ c, Function.update held a none c ≠ some e := by
    intro c hc
    by_cases hca : c = a
    · subst hca; simp at hc
    · rw [Function.update_of_ne hca] at hc
      exact hca (h.held_unique hc hheld)
  have hother : ∀ c f, f ≠ e → (Function.update held a none c = some f ↔ held c = some f) := by
    intro c f hf
    by_cases hca : c = a
    · subst hca
      simp [hheld, Ne.symm hf]
    · rw [Function.update_of_ne hca]
  cases hd : x.dropping with
  | true => exact h.drop hfree hother
  | false =>
    refine h.overwrite hx ⟨rfl, rfl, rfl⟩ (fun _ => hd) ⟨Nat.zero_le 1, ⟨fun h0 => (by cases h0), fun hc => ?_⟩, fun hd' => (by cases hd')⟩ hother
      (fun c hc => absurd hc (hfree c)) (fun w hw => ?_)
    · obtain ⟨c, hc⟩ := hc
      exact absurd hc (hfree c)
    · obtain ⟨-, h2, -⟩ := h.wanted w hw
      by_cases hwa : w.arm = a
      · rw [hwa, Function.update_self]
      · rw [Function.update_of_ne hwa, h2]

/-- A want placed for an arm whose segment held and wanted none (R109). -/
theorem PinsKept.place (h : PinsKept entry recency wants held wanting) {a : ArmId} {w : Want} (hwa : w.arm = a)
    (hm : w.meter = a.val) (hheld : held a = none) (hw : wanting a = false) :
    PinsKept entry recency (wants ++ [w]) held (Function.update wanting a true) := by
  subst hwa
  have hnot : ∀ v ∈ wants, v.arm ≠ w.arm := by
    intro v hv hva
    have := (h.wanted v hv).2.2
    rw [hva, hw] at this
    cases this
  refine { h with wantOnce := ?_, wanted := fun v hv => ?_, wanters := fun c hc => ?_ }
  · rw [List.map_append, List.nodup_append]
    refine ⟨h.wantOnce, by simp, ?_⟩
    rintro c hc d hd rfl
    obtain ⟨v, hv, rfl⟩ := List.mem_map.1 hc
    exact hnot v hv (by simpa using hd)
  · rcases List.mem_append.1 hv with hv | hv
    · rw [Function.update_of_ne (hnot v hv)]
      exact h.wanted v hv
    · obtain rfl : v = w := by simpa using hv
      exact ⟨hm, hheld, by simp⟩
  · by_cases hca : c = w.arm
    · exact ⟨w, by simp, hca.symm⟩
    · rw [Function.update_of_ne hca] at hc
      obtain ⟨v, hv, hvc⟩ := h.wanters c hc
      exact ⟨v, by simp [hv], hvc⟩

/-- An arm's want leaves the list when its timer stops (R61, R74, R112). -/
theorem PinsKept.unwant (h : PinsKept entry recency wants held wanting) (a : ArmId) :
    PinsKept entry recency (wants.filter fun w => w.arm != a) held (Function.update wanting a false) := by
  refine { h with wantOnce := ?_, wanted := fun w hw => ?_, wanters := fun c hc => ?_ }
  · exact h.wantOnce.sublist (List.filter_sublist.map _)
  · obtain ⟨hw, hwa⟩ := List.mem_filter.1 hw
    rw [Function.update_of_ne (by simpa using hwa)]
    exact h.wanted w hw
  · by_cases hca : c = a
    · subst hca; simp at hc
    · rw [Function.update_of_ne hca] at hc
      obtain ⟨w, hw, hwc⟩ := h.wanters c hc
      exact ⟨w, by simp [hw, hwc, hca], hwc⟩

end Sys2Proof.Machine.Arming
end

section
/-! What a change of state leaves of the arms' claims and of the profile cache: `Still`, by which the arms keep their claims, the
segments what they hold and want, and the cache stays as it is; `Carries`, by which both invariants are carried over (R53, R54,
R103, R106, R109). -/

namespace Sys2Proof.Machine.Arming

/-- What an arm's segment holds and whether it wants, where there is one. -/
def holding (x : Arm) : Option (Option EntryId × Bool) := x.seg?.map fun g => (g.entry, g.wantTimer.isSome)

/-- An arm goes on: its claim stays kept, its segment holds and wants what it did. -/
def GoesOn (x y : Arm) : Prop := (x.claimKept → y.claimKept) ∧ holding y = holding x

/-- An arm waits in no class wait queue (R131). -/
def Unqueued (a : ArmId) (s : State) : Prop := ∀ q ∈ s.dosing.queues.toList, ∀ w ∈ q, w.arm ≠ a

/-- The arms go on and the profile cache is as it was. -/
structure Calm (s t : State) : Prop where
  cache : t.cache = s.cache
  arms : ∀ a, GoesOn (s.arm a) (t.arm a)

/-- The arms go on, the profile cache is as it was, and no arm joins a class wait queue. -/
structure Still (s t : State) : Prop extends Calm s t where
  queues : ∀ a, Unqueued a s → Unqueued a t

/-- The claims stay kept, and the profile cache does. -/
structure Carries (s t : State) : Prop where
  claims : ClaimsKept s → ClaimsKept t
  cache : CacheKept s → CacheKept t

variable {s t u : State}

/-! ## The relations -/

theorem GoesOn.refl (x : Arm) : GoesOn x x := ⟨id, rfl⟩

theorem GoesOn.trans {x y z : Arm} (h : GoesOn x y) (h' : GoesOn y z) : GoesOn x z :=
  ⟨fun hx => h'.1 (h.1 hx), h'.2.trans h.2⟩

theorem Calm.refl (s : State) : Calm s s := ⟨rfl, fun _ => .refl _⟩

theorem Calm.trans (h : Calm s t) (h' : Calm t u) : Calm s u :=
  ⟨h'.cache.trans h.cache, fun a => (h.arms a).trans (h'.arms a)⟩

theorem Still.refl (s : State) : Still s s := ⟨.refl s, fun _ => id⟩

theorem Still.trans (h : Still s t) (h' : Still t u) : Still s u :=
  ⟨h.toCalm.trans h'.toCalm, fun a ha => h'.queues a (h.queues a ha)⟩

theorem Carries.refl (s : State) : Carries s s := ⟨id, id⟩

theorem Carries.trans (h : Carries s t) (h' : Carries t u) : Carries s u :=
  ⟨fun hs => h'.claims (h.claims hs), fun hs => h'.cache (h.cache hs)⟩

/-- A part of the state that neither invariant speaks of. -/
theorem Still.of_same (ha : t.arms = s.arms) (hc : t.cache = s.cache) (hq : t.dosing.queues = s.dosing.queues) : Still s t where
  cache := hc
  arms a := by simp only [State.arm, ha]; exact .refl _
  queues a h := by rw [Unqueued, hq]; exact h

/-- One arm changes, and goes on. -/
theorem Still.of_arm {a : ArmId} (ha : GoesOn (s.arm a) (t.arm a)) (hother : ∀ c, c ≠ a → t.arm c = s.arm c)
    (hc : t.cache = s.cache) (hq : t.dosing.queues = s.dosing.queues) : Still s t where
  cache := hc
  arms c := by
    by_cases h : c = a
    · rw [h]; exact ha
    · rw [hother c h]; exact .refl _
  queues a h := by rw [Unqueued, hq]; exact h

/-- The same claims, the same cache, and segments that hold and want the same keep both invariants. -/
theorem Calm.carries (h : Calm s t) : Carries s t where
  claims hs a := (h.arms a).1 (hs a)
  cache hs := by
    have hheld : held t = held s := by
      funext a
      have := (h.arms a).2
      simp only [held, State.seg?]
      rw [holding, holding] at this
      cases hx : (s.arm a).seg? <;> cases hy : (t.arm a).seg? <;> simp_all
    have hwanting : wanting t = wanting s := by
      funext a
      have := (h.arms a).2
      simp only [wanting, State.seg?]
      rw [holding, holding] at this
      cases hx : (s.arm a).seg? <;> cases hy : (t.arm a).seg? <;> simp_all
    have hentry : t.entry = s.entry := by funext e; simp only [State.entry, h.cache]
    rw [cacheKept_iff] at hs ⊢
    rwa [hentry, h.cache, hheld, hwanting]

/-! ## One arm -/

theorem holding_of_status {x y : Arm} (h : y.status = x.status) : holding y = holding x := by
  simp only [holding, Arm.seg?, h]

/-- An arm whose segment, if it has one, keeps its bay, its entry and its want timer goes on. -/
theorem GoesOn.modSeg {f : Segment → Segment} (x : Arm)
    (hf : ∀ g, (f g).bay = g.bay ∧ (f g).entry = g.entry ∧ (f g).wantTimer.isSome = g.wantTimer.isSome) : GoesOn x (x.modSeg f) := by
  cases hx : x.status with
  | segment g =>
    obtain ⟨hb, he, hw⟩ := hf g
    simp [GoesOn, Arm.claimKept, holding, Arm.seg?, Arm.modSeg, hx, hb, he, hw]
  | _ => simp [GoesOn, Arm.modSeg, hx]

/-- An arm without a segment that is left IDLE without a claim goes on. -/
theorem GoesOn.released {x : Arm} (h : x.seg? = none) : GoesOn x { x with status := .idle, claim := none } := by
  constructor
  · intro _; rfl
  · rw [holding, holding, h]; rfl

theorem Still.modArm (h : Still s t) (a : ArmId) {f : Arm → Arm} (hf : GoesOn (t.arm a) (f (t.arm a))) : Still s (t.modArm a f) :=
  h.trans (.of_arm (by rwa [State.modArm_arm_self]) (fun _ hc => State.modArm_arm_ne t hc f) rfl rfl)

/-- An update of a segment that keeps its bay, its entry and its want timer. -/
def KeepsHold (f : Segment → Segment) : Prop :=
  ∀ g, (f g).bay = g.bay ∧ (f g).entry = g.entry ∧ (f g).wantTimer.isSome = g.wantTimer.isSome

theorem Still.modSeg (h : Still s t) (a : ArmId) {f : Segment → Segment} (hf : KeepsHold f) : Still s (t.modSeg a f) :=
  h.modArm a (.modSeg _ hf)

/-- The segments of several arms updated, one after the other. -/
theorem Still.foldl_modSeg (h : Still s t) {f : Segment → Segment} (as : List ArmId) (hf : KeepsHold f) :
    Still s (as.foldl (fun t a => t.modSeg a f) t) := by
  induction as generalizing t with
  | nil => exact h
  | cons a as ih => exact ih (h.modSeg a hf)

/-- An arm without a segment is released (R54, R76). -/
theorem Still.releaseArm (h : Still s t) {a : ArmId} (ha : t.seg? a = none) : Still s (t.releaseArm a) :=
  h.trans (.of_arm (by rw [releaseArm_arm_self]; exact .released ha) (fun _ hc => releaseArm_arm_ne hc t) (by simp) (by simp))

/-- An arm in RESUME_WAIT has no segment. -/
theorem seg?_of_waitsFor {x : Arm} {b : BayId} (h : x.waitsFor b = true) : x.seg? = none := by
  cases hx : x.status <;> simp_all [Arm.waitsFor, Arm.seg?]

/-- Several arms without a segment are released. -/
theorem Still.foldl_releaseArm (h : Still s t) (as : List ArmId) (has : ∀ a ∈ as, t.seg? a = none) :
    Still s (as.foldl (fun t a => t.releaseArm a) t) := by
  induction as generalizing t with
  | nil => exact h
  | cons a as ih =>
    refine ih (h.releaseArm (has a (by simp))) fun c hc => ?_
    by_cases hca : c = a
    · subst hca; simp [State.seg?, Arm.seg?]
    · rw [State.seg?, releaseArm_arm_ne hca]
      exact has c (by simp [hc])

/-- Every arm that waits for a bay is released (R28, R31, R42, R46, R47). -/
theorem Still.releaseWaiting (h : Still s t) (b : BayId) : Still s (t.releaseWaiting b) :=
  h.foldl_releaseArm _ fun _ ha => seg?_of_waitsFor (mem_waitArms.1 ha)

section
variable (h : Still s t)
include h

theorem Still.same {t' : State} (ha : t'.arms = t.arms) (hc : t'.cache = t.cache) (hq : t'.dosing.queues = t.dosing.queues) :
    Still s t' := h.trans (.of_same ha hc hq)

theorem Still.modBay (b : BayId) (f : Bay → Bay) : Still s (t.modBay b f) := h.same rfl rfl rfl
theorem Still.modOrder (no : Nat) (f : Order → Order) : Still s (t.modOrder no f) := h.same rfl rfl rfl
theorem Still.modLine (no c : Nat) (f : Line → Line) : Still s (t.modLine no c f) := h.same rfl rfl rfl
theorem Still.modPermit (card : Nat) (f : Permit → Permit) : Still s (t.modPermit card f) := h.same rfl rfl rfl
theorem Still.removeOrder (no : Nat) : Still s (t.removeOrder no) := h.same rfl rfl rfl
theorem Still.removePermit (card : Nat) : Still s (t.removePermit card) := h.same rfl rfl rfl
theorem Still.setSlot (k : SlotId) (x : NoteSlot) : Still s (t.setSlot k x) := h.same rfl rfl rfl
theorem Still.prompt (b : BayId) (p : Prompt) : Still s (t.prompt b p) := h.same rfl rfl rfl
theorem Still.emit (o : Output) : Still s (t.emit o) := h.same rfl rfl rfl
theorem Still.mark (src : Source) : Still s (t.mark src) := h.same rfl rfl rfl
theorem Still.occurBusy (a : ArmId) (b : BayId) : Still s (t.occurBusy a b) := h.same rfl rfl rfl
theorem Still.occurEnded (a : ArmId) : Still s (t.occurEnded a) := h.same rfl rfl rfl
theorem Still.modInjector (j : InjId) (f : Injector → Injector) : Still s (t.modInjector j f) := h.same rfl rfl rfl
theorem Still.setBayState (b : BayId) (st : BayState) : Still s (t.setBayState b st) := h.same (by simp) (by simp) (by simp)
theorem Still.setReferrals (rs : List Referral) : Still s (t.setReferrals rs) := h.same (by simp) (by simp) (by simp)
theorem Still.setCal (v : Bool) : Still s (t.setCal v) := h.same (by simp) (by simp) (by simp)
theorem Still.setInjectorState (j : InjId) (st : InjectorState) : Still s (t.setInjectorState j st) :=
  h.same (by simp) (by simp) (by rw [State.setInjectorState, State.levelChange_dosing]; rfl)

end

/-- The end of an arm's segment is past its release of what it held: the segment stands, holds and wants nothing, and waits in no
queue (R74). -/
def Ended (a : ArmId) (s : State) : Prop := holding (s.arm a) = some (none, false) ∧ Unqueued a s

theorem Still.ended (h : Still s t) {a : ArmId} (ha : Ended a s) : Ended a t := ⟨(h.arms a).2.trans ha.1, h.queues a ha.2⟩

end Sys2Proof.Machine.Arming
end

section
/-! The operations by which neither an arm's claim nor the profile cache changes: visits, notes, injectors, metering, and the parts of
an event behind a segment's end (R28, R38, R41, R43, R64, R66, R131, R139, R141). -/

namespace Sys2Proof.Machine.Arming

variable {s t : State} (h : Still s t)
include h

/-! ## Visits and notes -/

theorem Still.settleNote (o : Order) (r : Bool) : Still s (t.settleNote o r).1 := by
  unfold State.settleNote
  split
  · exact h
  · split
    · exact h.setSlot _ _
    · exact h.same rfl rfl rfl
    · exact h
    · exact h

theorem Still.unbindPermit (card : Nat) : Still s (t.unbindPermit card) := by
  unfold State.unbindPermit
  split
  · exact h
  · split
    · exact h.removePermit _
    · exact h.modPermit _ _

theorem Still.freeBay (b : BayId) (serial : Nat) : Still s (t.freeBay b serial) :=
  ((h.modBay _ _).setBayState _ _).prompt _ _

theorem Still.closeOrder (b : BayId) (r : Bool) : Still s (t.closeOrder b r) := by
  unfold State.closeOrder
  split
  · exact h
  · exact (((((h.modBay _ _).releaseWaiting _).settleNote _ _).unbindPermit _).removeOrder _).freeBay _ _

theorem Still.revertOrder (b : BayId) : Still s (t.revertOrder b) := by
  unfold State.revertOrder
  split
  · exact h
  · exact ((h.modOrder _ _).unbindPermit _).freeBay _ _

theorem Still.cancelBound (b : BayId) (o : Order) : Still s (t.cancelBound b o) :=
  ((h.unbindPermit _).removeOrder _).freeBay _ _

theorem Still.letGo (b : BayId) (r : Bool) : Still s (t.letGo b r) := by
  unfold State.letGo
  split
  · exact h
  · split
    · exact h.revertOrder b
    · exact h.closeOrder b r

theorem Still.cardedEntry (b : BayId) : Still s (t.cardedEntry b) := by
  unfold State.cardedEntry
  dsimp only
  split
  · exact h.closeOrder b false
  · split
    · exact (h.setBayState _ _).prompt _ _
    · split <;> exact ((h.modBay _ _).setBayState _ _).prompt _ _

theorem Still.bindOrder {u : State} {b : BayId} {card no : Nat} (hb : t.bindOrder b card no = .ok u) : Still s u := by
  unfold State.bindOrder State.bindPermit at hb
  cases hc : cardInCheck (t.permit? card) t.clock.day with
  | some r => simp [hc] at hb
  | none =>
    simp only [hc] at hb
    cases hb
    exact ((((h.modPermit _ _).modOrder _ _).modBay _ _).prompt _ _).cardedEntry b

theorem Still.settleTripped (b : BayId) : Still s (t.settleTripped b) := by
  unfold State.settleTripped
  split
  · exact h
  · split
    · exact h.cardedEntry b
    · split
      · exact h.closeOrder b false
      · exact h

theorem Still.settleBay (b : BayId) : Still s (t.settleBay b) := by
  unfold State.settleBay
  split
  · exact h.cardedEntry b
  · exact h

theorem Still.bayEnd (b : BayId) (a : ArmId) (cause : EndCause) : Still s (t.bayEnd b a cause).1 := by
  have h1 := h.prompt b (.stopped a cause)
  unfold State.bayEnd
  dsimp only
  split
  · exact h1
  · split
    · exact h1.closeOrder b false
    · exact h1
  · exact h1.settleTripped b
  · split
    · exact h1
    · exact h1.closeOrder b false
  all_goals exact h1

/-! ## Acquisition -/

theorem Still.reserveNote (o : Order) (b : BayId) : Still s (t.reserveNote o b) := by
  unfold State.reserveNote
  split
  · exact h
  · exact h
  · exact (h.setSlot _ _).modOrder _ _

theorem Still.bayAccepts (st : Start) (no : Nat) : Still s (t.bayAccepts st no) := by
  unfold State.bayAccepts
  dsimp only
  split
  · exact (((h.modOrder _ _).modBay _ _).setBayState _ _).prompt _ _
  · exact (h.modOrder _ _).prompt _ _

theorem Still.openNote (no : Nat) : Still s (t.openNote no) := by
  unfold State.openNote
  split
  · exact h
  · split
    · exact h.same rfl rfl rfl
    · exact h

theorem Still.modNote (no : Nat) (f : Note → Note) : Still s (t.modNote no f) := by
  unfold State.modNote
  split
  · exact h
  · split
    · exact h.setSlot _ _
    all_goals exact h

theorem Still.countSegment (a : ArmId) (g : Segment) (l : Line) : Still s (t.countSegment a g l) := by
  unfold State.countSegment
  dsimp only
  exact (((h.modLine _ _ _).modNote _ _).modSeg a (by exact fun _ => ⟨rfl, rfl, rfl⟩)).modArm a (by exact ⟨id, rfl⟩)

theorem Still.completeAcquisition (a : ArmId) : Still s (t.completeAcquisition a).1 := by
  unfold State.completeAcquisition
  split
  · exact h
  · split
    · exact h
    · split
      · exact h
      · exact (h.openNote _).countSegment _ _ _

/-! ## Claims, injectors and grants -/

theorem Still.startClaim (a : ArmId) (j : InjId) (index : Nat) (c : Component) : Still s (t.startClaim a j index c) :=
  ((h.modInjector _ _).setInjectorState _ _).modSeg a (by exact fun _ => ⟨rfl, rfl, rfl⟩)

theorem Still.releaseInjector (j : InjId) : Still s (t.releaseInjector j) := by
  unfold State.releaseInjector
  dsimp only
  split
  · exact (h.modInjector _ _).setInjectorState _ _
  · exact h.modInjector _ _
  all_goals exact h

theorem Still.releaseClaim (a : ArmId) (j : InjId) : Still s (t.releaseClaim a j) :=
  (h.releaseInjector j).modSeg a (by exact fun _ => ⟨rfl, rfl, rfl⟩)

theorem Still.releaseClaims (a : ArmId) : Still s (t.releaseClaims a) := by
  unfold State.releaseClaims
  split
  · exact h
  · next g hg =>
    clear hg
    generalize g.claims.map (·.injector) = js
    induction js generalizing t with
    | nil => exact h
    | cons j js ih => exact ih (h.releaseClaim a j)

theorem Still.evalCap (a : ArmId) : Still s (t.evalCap a) := h.modSeg a (by exact fun _ => ⟨rfl, rfl, rfl⟩)

theorem Still.evalCapOf (j : InjId) : Still s (t.evalCapOf j) := by
  unfold State.evalCapOf
  split
  · exact h.evalCap _
  · exact h

theorem Still.settleInjector (j : InjId) : Still s (t.settleInjector j) := by
  unfold State.settleInjector
  split
  · dsimp only
    split
    · exact (h.modInjector _ _).emit _
    · exact h.modInjector _ _
  · exact h

theorem Still.handOver (a : ArmId) (gv : Nat) (c : Claim) : Still s (t.handOver a gv c) := by
  unfold State.handOver
  dsimp only
  exact ((h.modSeg a (by exact fun _ => ⟨rfl, rfl, rfl⟩)).modInjector _ _).settleInjector _

theorem Still.handAll (a : ArmId) (gv : Nat) : Still s (t.handAll a gv) := by
  unfold State.handAll
  split
  · exact h
  · next g hg =>
    clear hg
    split
    · exact h
    · refine Still.evalCap ?_ a
      generalize g.claims = cs
      induction cs generalizing t with
      | nil => exact h
      | cons c cs ih => exact ih (h.handOver a gv c)

omit h in
theorem keepsHold_shutFlowing (cause : EndCause) : KeepsHold (Segment.shutFlowing cause) := by
  intro g; unfold Segment.shutFlowing; split <;> exact ⟨rfl, rfl, rfl⟩

omit h in
theorem keepsHold_shut (cause : EndCause) : KeepsHold (Segment.shut cause) := by
  intro g; unfold Segment.shut; split <;> exact ⟨rfl, rfl, rfl⟩

omit h in
theorem keepsHold_pause : KeepsHold Segment.pause := by
  intro g; unfold Segment.pause; split <;> exact ⟨rfl, rfl, rfl⟩

theorem Still.faultSegment (j : InjId) (c : Claimant) : Still s (t.faultSegment j c).1 := by
  unfold State.faultSegment
  split
  · exact h
  · have h1 := (h.modSeg c.arm (f := fun g' =>
      { g' with
        claims := g'.claims.map fun d => if d.injector == j then { d with doseFault := true } else d
        doseFault := g'.doseFault ||| BitVec.twoPow 3 (c.index - 1) }) (by exact fun _ => ⟨rfl, rfl, rfl⟩)).evalCap c.arm
    dsimp only
    split
    · exact h1
    · split
      · exact h1
      · exact h1.modSeg c.arm (keepsHold_shutFlowing _)

theorem Still.faultEntry (j : InjId) : Still s (t.faultEntry j).1 := by
  unfold State.faultEntry
  dsimp only
  split
  · exact ((h.modInjector _ _).setInjectorState _ _).faultSegment _ _
  · exact (h.modInjector _ _).setInjectorState _ _

theorem Still.stray (j : InjId) : Still s (t.stray j).1 := by
  unfold State.stray
  dsimp only
  split
  · exact (h.modInjector _ _).faultEntry j
  · dsimp only
    exact h.modInjector _ _

theorem Still.confirmEdge (j : InjId) : Still s (t.confirmEdge j).1 := by
  unfold State.confirmEdge
  dsimp only
  split
  · split
    · exact ((h.modInjector _ _).settleInjector _).evalCapOf _
    · exact h.stray j
  · exact (h.modInjector _ _).setInjectorState _ _
  · exact h.stray j
  · exact h
  · exact h

theorem Still.confirmExpiry (j : InjId) : Still s (t.confirmExpiry j).1 := by
  unfold State.confirmExpiry
  dsimp only
  split
  · exact h
  · split
    · split
      · exact (h.modInjector _ _).faultEntry j
      · exact ((h.modInjector _ _).settleInjector _).evalCapOf _
    · split <;> exact (h.modInjector _ _).setInjectorState _ _
    all_goals exact h

omit h in
/-- Fewer waiters, in every class. -/
theorem unqueued_setQueue {a : ArmId} {cls : Nat} {q : List Waiter} (hq : ∀ w ∈ q, w.arm ≠ a) (ha : Unqueued a s) :
    Unqueued a (s.setQueue cls q) := by
  intro p hp
  simp only [State.setQueue, Vector.toList_setIfInBounds] at hp
  rcases List.mem_or_eq_of_mem_set hp with hp | rfl
  · exact ha p hp
  · exact hq

omit h in
theorem unqueued_queue {a : ArmId} (cls : Nat) (ha : Unqueued a s) : ∀ w ∈ s.dosing.queue cls, w.arm ≠ a := by
  intro w hw
  unfold Dosing.queue at hw
  rw [List.getD_eq_getElem?_getD] at hw
  cases hq : s.dosing.queues.toList[cls - 1]? with
  | none => simp [hq] at hw
  | some q =>
    simp only [hq, Option.getD_some] at hw
    exact ha q (List.mem_of_getElem? hq) w hw

theorem Still.filterQueue (cls : Nat) (p : Waiter → Bool) : Still s (t.setQueue cls ((t.dosing.queue cls).filter p)) :=
  h.trans ⟨⟨rfl, fun _ => .refl _⟩, fun _ ha =>
    unqueued_setQueue (fun w hw => unqueued_queue cls ha w (List.mem_filter.1 hw).1) ha⟩

theorem Still.grant (j : InjId) : Still s (t.grant j).1 := by
  unfold State.grant
  dsimp only
  split
  · exact h
  · split
    · exact h
    · next w _ =>
      have h1 := h.filterQueue (t.injector j).cls fun v => v.arm != w.arm
      split
      · exact h1
      · next c _ =>
        have h2 := h1.startClaim w.arm j w.index c
        split
        · exact h2
        · split
          · exact h2.modSeg _ (by exact fun _ => ⟨rfl, rfl, rfl⟩)
          · exact h2

end Sys2Proof.Machine.Arming
end

section
/-! Ends and starts of segments: the pin and the want that an end lets go, the claim that a start takes, the entry that its lookup pins
or the want that it places (R53, R54, R59, R61, R74, R106, R108, R109). -/

namespace Sys2Proof.Machine.Arming

variable {s t : State}

/-! ## Reading the cache and the segments after an update -/

theorem arm_of_arms (h : t.arms = s.arms) : t.arm = s.arm := by funext c; simp only [State.arm, h]

theorem seg?_of_arms (h : t.arms = s.arms) : t.seg? = s.seg? := by funext c; simp only [State.seg?, State.arm, h]

theorem modSeg_arms_congr (h : t.arms = s.arms) (a : ArmId) (f : Segment → Segment) : (t.modSeg a f).arms = (s.modSeg a f).arms := by
  simp only [State.modSeg, State.modArm, h]

/-- Two updates of an arm's segment are one. -/
theorem modSeg_modSeg (s : State) (a : ArmId) (f f' : Segment → Segment) :
    (s.modSeg a f).modSeg a f' = s.modSeg a fun g => f' (f g) := by
  simp only [State.modSeg, State.modArm, Fin.getElem_fin, Vector.getElem_set_self, Vector.set_set]
  congr 2
  cases hx : (s.arms[a.val]).status <;> simp [Arm.modSeg, hx]

theorem entry_of_entries (h : t.cache.entries = s.cache.entries) : t.entry = s.entry := by funext c; simp only [State.entry, h]

theorem held_of_arms (h : t.arms = s.arms) : held t = held s := by funext c; rw [held, held, seg?_of_arms h]

theorem wanting_of_arms (h : t.arms = s.arms) : wanting t = wanting s := by funext c; rw [wanting, wanting, seg?_of_arms h]

theorem entry_setEntry (s : State) (e : EntryId) (v : Option Entry) : (s.setEntry e v).entry = Function.update s.entry e v := by
  funext f
  by_cases hf : f = e
  · subst hf; simp
  · rw [State.setEntry_entry_ne s hf, Function.update_of_ne hf]

theorem entry_modEntry (s : State) (e : EntryId) (f : Entry → Entry) :
    (s.modEntry e f).entry = Function.update s.entry e ((s.entry e).map f) := entry_setEntry s e _

theorem held_modSeg (s : State) (a : ArmId) (f : Segment → Segment) :
    held (s.modSeg a f) = Function.update (held s) a ((s.seg? a).bind fun g => (f g).entry) := by
  funext c
  by_cases hc : c = a
  · subst hc
    cases h : s.seg? c <;> simp [held, h]
  · rw [Function.update_of_ne hc, held, held, seg?_modSeg_ne hc]

theorem wanting_modSeg (s : State) (a : ArmId) (f : Segment → Segment) :
    wanting (s.modSeg a f) = Function.update (wanting s) a ((s.seg? a).any fun g => (f g).wantTimer.isSome) := by
  funext c
  by_cases hc : c = a
  · subst hc
    cases h : s.seg? c <;> simp [wanting, h]
  · rw [Function.update_of_ne hc, wanting, wanting, seg?_modSeg_ne hc]

/-- The want list without an arm's want, whether it had one or not (R109). -/
theorem removeWant_wants (s : State) (a : ArmId) : (s.removeWant a).cache.wants = s.cache.wants.filter fun w => w.arm != a := by
  unfold State.removeWant
  split
  · simp [State.setWants]
  · next h => 
    symm
    rw [List.filter_eq_self]
    intro w hw
    simp only [List.any_eq_true, not_exists, not_and, beq_iff_eq] at h
    simpa using h w hw

theorem removeWant_frame (s : State) (a : ArmId) :
    (s.removeWant a).arms = s.arms ∧ (s.removeWant a).dosing = s.dosing ∧ (s.removeWant a).cache.entries = s.cache.entries
      ∧ (s.removeWant a).cache.recency = s.cache.recency := by
  unfold State.removeWant
  split <;> simp [State.setWants]

theorem claimsKept_of_arms (h : t.arms = s.arms) (hs : ClaimsKept s) : ClaimsKept t := by
  rw [ClaimsKept, arm_of_arms h]; exact hs

/-- A claim is kept under an update of the segment that leaves its bay (R54). -/
theorem claimsKept_modSeg (a : ArmId) {f : Segment → Segment} (hf : ∀ g, (f g).bay = g.bay) (hs : ClaimsKept s) :
    ClaimsKept (s.modSeg a f) := by
  intro c
  by_cases hc : c = a
  · subst hc
    have := hs c
    rw [State.modSeg, State.modArm_arm_self]
    revert this
    cases hx : (s.arm c).status <;> simp [Arm.claimKept, Arm.modSeg, hx, hf]
  · rw [State.modSeg, State.modArm_arm_ne s hc]
    exact hs c

/-! ## The end of a segment -/

/-- An update of a note reaches the note store alone. -/
theorem modNote_frame (s : State) (no : Nat) (f : Note → Note) : SameExcept [.notes] s (s.modNote no f) := by
  unfold State.modNote
  split
  · simp [SameExcept]
  · split <;> simp [SameExcept]

/-- The records that an end settles are the note, the order line and the permit (R74 steps 2 to 4). -/
theorem settleRecords_frame (s : State) (g : Segment) (cause : EndCause) :
    SameExcept [.notes, .orders, .permits] s (s.settleRecords g cause) := by
  unfold State.settleRecords
  split
  · simp [SameExcept]
  · split
    · simp [SameExcept]
    · unfold State.writeBack
      have := modNote_frame s g.orderNo
      simp only [SameExcept] at this ⊢
      split <;> simp_all

/-- The waits of an arm end: its want goes with the want timer, and it waits in no queue (R74 step 1). -/
theorem endWaits_carries (s : State) (a : ArmId) : Carries s (s.endWaits a) where
  claims hs := claimsKept_modSeg a (fun _ => rfl) (claimsKept_of_arms (removeWant_frame s a).1 hs)
  cache hs := by
    obtain ⟨harms, -, hentries, hrec⟩ := removeWant_frame s a
    rw [cacheKept_iff] at hs ⊢
    have hleave : ((s.removeWant a).leaveQueues a).arms = s.arms := harms
    have hheld : held (s.endWaits a) = held s := by
      rw [State.endWaits, held_modSeg, held_of_arms hleave, seg?_of_arms hleave]
      exact Function.update_eq_self a (held s)
    have hwanting : wanting (s.endWaits a) = Function.update (wanting s) a false := by
      rw [State.endWaits, wanting_modSeg, wanting_of_arms hleave, seg?_of_arms hleave]
      congr 1
      cases s.seg? a <;> rfl
    have hentry : (s.endWaits a).entry = s.entry := entry_of_entries hentries
    have hcache : (s.endWaits a).cache = (s.removeWant a).cache := rfl
    rw [hentry, hcache, hrec, removeWant_wants, hheld, hwanting]
    exact hs.unwant a

/-- The learned advance changes neither tag nor pin of an entry (R72). -/
theorem learn_carries (s : State) (g : Segment) (cause : EndCause) : Carries s (s.learn g cause) := by
  unfold State.learn
  split
  · next e _ =>
    refine ⟨fun hs a => hs a, fun hs => ?_⟩
    rw [cacheKept_iff] at hs ⊢
    change PinsKept _ s.cache.recency s.cache.wants (held s) (wanting s)
    rw [entry_modEntry]
    cases hx : s.entry e with
    | none =>
      rw [Option.map_none, ← hx, Function.update_eq_self]
      exact hs
    | some x => exact hs.modify hx ⟨rfl, rfl, rfl⟩ rfl rfl
  · exact .refl s

theorem learn_frame (s : State) (g : Segment) (cause : EndCause) :
    (s.learn g cause).arms = s.arms ∧ (s.learn g cause).dosing = s.dosing := by
  unfold State.learn
  split <;> exact ⟨rfl, rfl⟩

theorem unpin_frame (s : State) (e : EntryId) :
    (s.unpin e).arms = s.arms ∧ (s.unpin e).dosing = s.dosing ∧ (s.unpin e).cache.wants = s.cache.wants := by
  unfold State.unpin
  split
  · exact ⟨rfl, rfl, rfl⟩
  · split <;> exact ⟨rfl, rfl, rfl⟩

/-- A valid entry and the recency list after the release of its pin (R105, R108). -/
theorem unpin_some {e : EntryId} {x : Entry} (hx : s.entry e = some x) :
    (s.unpin e).entry = Function.update s.entry e (if x.dropping then none else some { x with pinCount := 0 })
      ∧ (s.unpin e).cache.recency = if x.dropping then s.cache.recency.filter (· != e) else s.cache.recency := by
  unfold State.unpin
  rw [hx]
  by_cases hd : x.dropping = true
  · simp only [if_pos hd]
    exact ⟨entry_setEntry s e none, rfl⟩
  · simp only [if_neg hd]
    exact ⟨by rw [entry_modEntry, hx]; rfl, rfl⟩

/-- The arm after the release of its pin: its segment holds no entry (R55, R108). -/
theorem releasePin_arm (s : State) (a : ArmId) (g : Segment) :
    (∀ c, c ≠ a → (s.releasePin a g).arm c = s.arm c)
      ∧ (held s a = g.entry → (s.releasePin a g).arm a = (s.arm a).modSeg fun x => { x with entry := none })
      ∧ (s.releasePin a g).dosing = s.dosing := by
  cases he : g.entry with
  | none =>
    rw [releasePin_none he]
    refine ⟨fun _ _ => rfl, fun h => ?_, rfl⟩
    simp only [held, State.seg?] at h
    cases hx : (s.arm a).status with
    | segment x =>
      have hxe : x.entry = none := by simpa [Arm.seg?, hx] using h
      simp only [Arm.modSeg, hx]
      rw [← hxe]
      generalize s.arm a = y at hx ⊢
      cases y
      simp only at hx
      rw [hx]
    | _ => simp [Arm.modSeg, hx]
  | some e =>
    rw [releasePin_some he]
    have harm := arm_of_arms (unpin_frame s e).1
    refine ⟨fun c hc => ?_, fun _ => ?_, (unpin_frame s e).2.1⟩
    · rw [State.modSeg, State.modArm_arm_ne _ hc, harm]
    · rw [State.modSeg, State.modArm_arm_self, harm]

/-- The pin that an arm's segment holds is released, and the segment holds no entry from then on (R55, R108). -/
theorem releasePin_cache {a : ArmId} {g : Segment} (hs : CacheKept s) (hg : held s a = g.entry) : CacheKept (s.releasePin a g) := by
  cases he : g.entry with
  | none => rwa [releasePin_none he]
  | some e =>
    rw [releasePin_some he]
    rw [he] at hg
    rw [cacheKept_iff] at hs ⊢
    obtain ⟨x, hx, -⟩ := hs.meters a e hg
    obtain ⟨harms, -, hwants⟩ := unpin_frame s e
    obtain ⟨hentry, hrec⟩ := unpin_some hx
    have hwanting : wanting ((s.unpin e).modSeg a fun x => { x with entry := none }) = wanting s := by
      rw [wanting_modSeg, wanting_of_arms harms, seg?_of_arms harms]
      exact Function.update_eq_self a (wanting s)
    have hheld : held ((s.unpin e).modSeg a fun x => { x with entry := none }) = Function.update (held s) a none := by
      rw [held_modSeg, held_of_arms harms, seg?_of_arms harms]
      congr 1
      cases s.seg? a <;> rfl
    rw [hheld, hwanting]
    change PinsKept (s.unpin e).entry (s.unpin e).cache.recency (s.unpin e).cache.wants _ _
    rw [hentry, hrec, hwants]
    exact hs.unpin hx hg

theorem releasePin_claims (hs : ClaimsKept s) (a : ArmId) (g : Segment) : ClaimsKept (s.releasePin a g) := by
  cases he : g.entry with
  | none => rwa [releasePin_none he]
  | some e =>
    rw [releasePin_some he]
    exact claimsKept_modSeg a (fun _ => rfl) (claimsKept_of_arms (unpin_frame s e).1 hs)

end Sys2Proof.Machine.Arming
end

section
/-! The end of a segment taken at its arm, and the start of one (R53, R54, R56, R59, R61, R74, R106, R109). -/

namespace Sys2Proof.Machine.Arming

variable {s t : State}

/-! ## The end at the arm -/

/-- A segment without an entry and without a want. -/
def Bare (a : ArmId) (s : State) : Prop := held s a = none ∧ wanting s a = false

theorem Still.claimsCache (h : Still s t) : Carries s t := h.toCalm.carries

/-- The overrun that an end finds (R73). -/
def endOverrun (s : State) (g : Segment) : Bool :=
  g.overran (((s.segLine? g).map Line.basis).getD .gross) (((s.segEntry? g).map Entry.overrunTol).getD 0)

/-- Steps 1 to 4 of the end of an arm's segment `g` (R74). -/
def stepsToPin (a : ArmId) (g : Segment) (cause : EndCause) (s : State) : State :=
  (((s.endWaits a).learn g cause).modSeg a fun x => { x with overrun := endOverrun s g }).settleRecords
    { g with overrun := endOverrun s g } cause

theorem endSteps_of_seg {a : ArmId} {g : Segment} (hg : s.seg? a = some g) (cause : EndCause) :
    s.endSteps a cause = (stepsToPin a g cause s).releasePin a { g with overrun := endOverrun s g } := by
  unfold State.endSteps
  rw [hg]; rfl

theorem endSteps_of_none {a : ArmId} (hg : s.seg? a = none) (cause : EndCause) : s.endSteps a cause = s := by
  unfold State.endSteps
  rw [hg]

/-- The arms after steps 1 to 4: the ending segment's timers are stopped, and its overrun is recorded. -/
theorem stepsToPin_arms (s : State) (a : ArmId) (g : Segment) (cause : EndCause) :
    (stepsToPin a g cause s).arms = (s.modSeg a fun x => { x with
      wantTimer := none, injectorTimer := none, periodTimer := none, overrun := endOverrun s g }).arms := by
  obtain ⟨-, -, -, -, harms, -⟩ := settleRecords_frame
    (((s.endWaits a).learn g cause).modSeg a fun x => { x with overrun := endOverrun s g }) { g with overrun := endOverrun s g } cause
  rw [stepsToPin, harms.resolve_left (by simp)]
  rw [modSeg_arms_congr (learn_frame (s.endWaits a) g cause).1, State.endWaits, modSeg_modSeg]
  exact modSeg_arms_congr (t := (s.removeWant a).leaveQueues a) (removeWant_frame s a).1 a _

theorem stepsToPin_dosing (s : State) (a : ArmId) (g : Segment) (cause : EndCause) :
    (stepsToPin a g cause s).dosing = (s.leaveQueues a).dosing := by
  obtain ⟨-, -, -, -, -, -, hdosing, -⟩ := settleRecords_frame
    (((s.endWaits a).learn g cause).modSeg a fun x => { x with overrun := endOverrun s g }) { g with overrun := endOverrun s g } cause
  rw [stepsToPin, hdosing.resolve_left (by simp), State.modSeg_dosing, (learn_frame _ g cause).2, State.endWaits,
    State.modSeg_dosing]
  simp only [State.leaveQueues, (removeWant_frame s a).2.1]

theorem stepsToPin_carries (s : State) (a : ArmId) (g : Segment) (cause : EndCause) : Carries s (stepsToPin a g cause s) := by
  refine ((endWaits_carries s a).trans (learn_carries _ g cause)).trans (Still.toCalm ?_).carries
  have h1 := (Still.refl ((s.endWaits a).learn g cause)).modSeg a (f := fun x => { x with overrun := endOverrun s g })
    fun _ => ⟨rfl, rfl, rfl⟩
  obtain ⟨-, -, -, -, harms, hcache, hdosing, -⟩ := settleRecords_frame
    (((s.endWaits a).learn g cause).modSeg a fun x => { x with overrun := endOverrun s g }) { g with overrun := endOverrun s g } cause
  exact h1.same (harms.resolve_left (by simp)) (hcache.resolve_left (by simp)) (congrArg Dosing.queues (hdosing.resolve_left (by simp)))

theorem stepsToPin_held {a : ArmId} {g : Segment} (hg : s.seg? a = some g) (cause : EndCause) :
    held (stepsToPin a g cause s) a = g.entry := by
  rw [held_of_arms (stepsToPin_arms s a g cause), held_modSeg, hg]
  simp

/-- An arm that has left its queues waits in none; the others wait where they did, or nowhere (R132). -/
theorem unqueued_leaveQueues (s : State) (a : ArmId) :
    Unqueued a (s.leaveQueues a) ∧ ∀ c, Unqueued c s → Unqueued c (s.leaveQueues a) := by
  have hmem : ∀ q ∈ (s.leaveQueues a).dosing.queues.toList, ∃ p ∈ s.dosing.queues.toList, q = p.filter fun w => w.arm != a := by
    intro q hq
    rw [State.leaveQueues, Vector.toList_map] at hq
    obtain ⟨p, hp, rfl⟩ := List.mem_map.1 hq
    exact ⟨p, hp, rfl⟩
  constructor
  · intro q hq w hw
    obtain ⟨p, -, rfl⟩ := hmem q hq
    simpa using (List.mem_filter.1 hw).2
  · intro c hc q hq w hw
    obtain ⟨p, hp, rfl⟩ := hmem q hq
    exact hc p hp w (List.mem_filter.1 hw).1

/-- After steps 1 to 5 of its end an arm's segment holds and wants nothing, and waits in no queue (R74, R108, R109). -/
theorem endSteps_ended {a : ArmId} {g : Segment} (hg : s.seg? a = some g) (cause : EndCause) : Ended a (s.endSteps a cause) := by
  obtain ⟨-, hself, hdosing⟩ := releasePin_arm (stepsToPin a g cause s) a { g with overrun := endOverrun s g }
  rw [endSteps_of_seg hg]
  refine ⟨?_, by rw [Unqueued, hdosing, stepsToPin_dosing]; exact (unqueued_leaveQueues s a).1⟩
  have hstat : (s.arm a).status = .segment g := by
    simp only [State.seg?, Arm.seg?] at hg
    split at hg <;> simp_all
  rw [hself (stepsToPin_held hg cause), arm_of_arms (stepsToPin_arms s a g cause), State.modSeg, State.modArm_arm_self]
  simp [holding, Arm.seg?, Arm.modSeg, hstat]

theorem endSteps_carries (s : State) (a : ArmId) (cause : EndCause) : Carries s (s.endSteps a cause) := by
  cases hg : s.seg? a with
  | none => rw [endSteps_of_none hg]; exact .refl s
  | some g =>
    rw [endSteps_of_seg hg]
    exact (stepsToPin_carries s a g cause).trans
      ⟨fun hs => releasePin_claims hs a _, fun hs => releasePin_cache hs (stepsToPin_held hg cause)⟩

theorem endSteps_ended_ne {a c : ArmId} (hc : c ≠ a) (cause : EndCause) (h : Ended c s) : Ended c (s.endSteps a cause) := by
  cases hg : s.seg? a with
  | none => rw [endSteps_of_none hg]; exact h
  | some g =>
    obtain ⟨hne, -, hdosing⟩ := releasePin_arm (stepsToPin a g cause s) a { g with overrun := endOverrun s g }
    rw [endSteps_of_seg hg]
    refine ⟨?_, by rw [Unqueued, hdosing, stepsToPin_dosing]; exact (unqueued_leaveQueues s a).2 c h.2⟩
    rw [hne c hc, arm_of_arms (stepsToPin_arms s a g cause), State.modSeg, State.modArm_arm_ne s hc]
    exact h.1

/-- The arm after step 7 of the end of its segment: it stands in FAULT or IDLE without a claim, or waits with its claim (R53, R74). -/
theorem finishEnd_arm {a : ArmId} {g : Segment} (hg : s.seg? a = some g) (cause : EndCause) :
    ∃ st : ArmStatus, (∀ g', st ≠ .segment g')
      ∧ ((s.finishEnd a cause).arm a).status = st ∧ ((s.finishEnd a cause).arm a).reach = (s.arm a).reach
      ∧ (((s.finishEnd a cause).arm a).claim = none ∧ (st = .idle ∨ st = .fault)
        ∨ ((s.finishEnd a cause).arm a).claim = (s.arm a).claim ∧ st = .resumeWait g.orderNo g.compartment) := by
  unfold State.finishEnd
  rw [hg]
  dsimp only
  split
  · exact ⟨.fault, by simp, by simp [State.clearClaim], by simp [State.clearClaim], .inl ⟨by simp [State.clearClaim], .inr rfl⟩⟩
  · split
    · exact ⟨.resumeWait g.orderNo g.compartment, by simp, by simp, by simp, .inr ⟨by simp, rfl⟩⟩
    · exact ⟨.idle, by simp, by simp, by simp, .inl ⟨by simp, .inl rfl⟩⟩
  · exact ⟨.idle, by simp, by simp, by simp, .inl ⟨by simp, .inl rfl⟩⟩

theorem finishEnd_frame (s : State) (a : ArmId) (cause : EndCause) :
    (∀ c, c ≠ a → (s.finishEnd a cause).arm c = s.arm c) ∧ (s.finishEnd a cause).cache = s.cache
      ∧ (s.finishEnd a cause).dosing = s.dosing := by
  unfold State.finishEnd
  split
  · exact ⟨fun _ _ => rfl, rfl, rfl⟩
  · next g _ =>
    have h1 : ∀ f c, c ≠ a → ((s.modArm a f).occurEnded a).arm c = s.arm c := fun f c hc => State.modArm_arm_ne s hc f
    dsimp only
    split
    · refine ⟨fun c hc => ?_, by simp, by simp⟩
      rw [State.clearClaim, State.occurReleased_arm, State.modArm_arm_ne _ hc, setArmStatus_arm_ne hc, h1 _ c hc]
    · split
      · exact ⟨fun c hc => by rw [setArmStatus_arm_ne hc, h1 _ c hc], by simp, by simp⟩
      · exact ⟨fun c hc => by rw [releaseArm_arm_ne hc, h1 _ c hc], by simp, by simp⟩
    · exact ⟨fun c hc => by rw [releaseArm_arm_ne hc, h1 _ c hc], by simp, by simp⟩

theorem finishEnd_seg? (s : State) (a : ArmId) (cause : EndCause) : (s.finishEnd a cause).seg? a = none := by
  cases hg : s.seg? a with
  | none => unfold State.finishEnd; rw [hg]; exact hg
  | some g =>
    obtain ⟨st, hst, hstatus, -⟩ := finishEnd_arm hg cause
    simp only [State.seg?, Arm.seg?, hstatus]
    cases st with
    | segment g' => exact absurd rfl (hst g')
    | _ => rfl

theorem finishEnd_claims (hs : ClaimsKept s) (a : ArmId) (cause : EndCause) : ClaimsKept (s.finishEnd a cause) := by
  obtain ⟨hne, -, -⟩ := finishEnd_frame s a cause
  intro c
  by_cases hc : c = a
  · subst hc
    cases hg : s.seg? c with
    | none => unfold State.finishEnd; rw [hg]; exact hs c
    | some g =>
      obtain ⟨st, -, hstatus, hreach, h | h⟩ := finishEnd_arm hg cause
      · obtain ⟨hclaim, rfl | rfl⟩ := h <;> simpa [Arm.claimKept, hstatus] using hclaim
      · obtain ⟨hclaim, rfl⟩ := h
        have hkept := hs c
        have hstat : (s.arm c).status = .segment g := by
          simp only [State.seg?, Arm.seg?] at hg
          split at hg <;> simp_all
        simp only [Arm.claimKept, hstat] at hkept
        simp only [Arm.claimKept, hstatus, hclaim, hreach]
        exact ⟨g.bay, hkept⟩
  · rw [hne c hc]; exact hs c

/-- A segment that holds and wants nothing may go (R74 step 7). -/
theorem finishEnd_cache {a : ArmId} (hs : CacheKept s) (ha : Bare a s) (cause : EndCause) : CacheKept (s.finishEnd a cause) := by
  obtain ⟨hne, hcache, -⟩ := finishEnd_frame s a cause
  have hgone := finishEnd_seg? s a cause
  have hheld : held (s.finishEnd a cause) = held s := by
    funext c
    by_cases hc : c = a
    · subst hc; rw [ha.1, held, hgone]; rfl
    · simp only [held, State.seg?, hne c hc]
  have hwanting : wanting (s.finishEnd a cause) = wanting s := by
    funext c
    by_cases hc : c = a
    · subst hc; rw [ha.2, wanting, hgone]; rfl
    · simp only [wanting, State.seg?, hne c hc]
  rw [cacheKept_iff] at hs ⊢
  rw [entry_of_entries (s := s) (t := s.finishEnd a cause) (by rw [hcache]), hcache, hheld, hwanting]
  exact hs

theorem Ended.bare {a : ArmId} (h : Ended a s) : Bare a s := by
  have h1 := h.1
  simp only [Bare, held, wanting, State.seg?]
  rw [holding] at h1
  cases hx : (s.arm a).seg? with
  | none => rw [hx] at h1; cases h1
  | some g =>
    rw [hx] at h1
    simp only [Option.map_some, Option.some.injEq, Prod.mk.injEq] at h1
    exact h1

theorem endAtArm_carries (s : State) (a : ArmId) (cause : EndCause) : Carries s (s.endAtArm a cause) := by
  have h1 := (endSteps_carries s a cause).trans ((Still.refl _).releaseClaims a).claimsCache
  refine ⟨fun hs => finishEnd_claims (h1.claims hs) a cause, fun hs => finishEnd_cache (h1.cache hs) ?_ cause⟩
  cases hg : s.seg? a with
  | some g => exact (((Still.refl _).releaseClaims a).ended (endSteps_ended hg cause)).bare
  | none =>
    have h3 : (s.endSteps a cause).releaseClaims a = s := by rw [endSteps_of_none hg, State.releaseClaims, hg]
    rw [h3]
    simp [Bare, held, wanting, hg]

theorem endAtArm_ended_ne {a c : ArmId} (hc : c ≠ a) (cause : EndCause) (h : Ended c s) : Ended c (s.endAtArm a cause) := by
  have h1 := ((Still.refl _).releaseClaims a).ended (endSteps_ended_ne hc cause h)
  obtain ⟨hne, -, hdosing⟩ := finishEnd_frame ((s.endSteps a cause).releaseClaims a) a cause
  refine ⟨?_, ?_⟩
  · rw [State.endAtArm, hne c hc]; exact h1.1
  · rw [State.endAtArm, Unqueued, hdosing]; exact h1.2

theorem endAtArm_seg? (s : State) (a : ArmId) (cause : EndCause) : (s.endAtArm a cause).seg? a = none := finishEnd_seg? _ a cause

end Sys2Proof.Machine.Arming
end

section
/-! The start of a segment, and the parts of an event one after the other: each carries the claims and the cache over, and between
steps 5 and 7 of an end the segment stays as it is (R53, R54, R56, R59, R61, R62, R74, R106, R109, R131, R141). -/

namespace Sys2Proof.Machine.Arming

variable {s t : State}

/-! ## The start -/

theorem firstFailure_eq_none {tests : List (Bool × Reason)} : firstFailure tests = none ↔ ∀ p ∈ tests, p.1 = true := by
  simp [firstFailure]

/-- What offering a start can do: a refusal, which marks an arm at most, or an acceptance at an arm without a segment whose reach holds
the bay, with the lookup behind it (R56, R57, R59, R61). -/
theorem offerStart_cases (st : Start) (s : State) :
    ((s.offerStart st).refusal ≠ none ∧ (s.offerStart st).jobs = [] ∧
        ((s.offerStart st).state = s ∨ (s.offerStart st).state = s.occurBusy st.arm st.bay))
      ∨ ((s.offerStart st).refusal = none ∧ s.seg? st.arm = none ∧ st.bay ∈ (s.arm st.arm).reach ∧
        ∃ o l r, ((s.offerStart st).state, (s.offerStart st).jobs) = (s.acceptStart st o l r).enterProfile st.arm l.product) := by
  unfold State.offerStart
  split
  · next r _ =>
    refine .inl ⟨by simp, rfl, ?_⟩
    dsimp only
    unfold State.refuseStart
    split
    · exact .inr rfl
    · exact .inl rfl
  · next hpass =>
    rw [firstFailure_eq_none] at hpass
    split
    · exact .inl ⟨by simp, rfl, .inl rfl⟩
    · next o _ =>
      split
      · exact .inl ⟨by simp, rfl, .inl rfl⟩
      · next l _ =>
        split
        · exact .inl ⟨by simp, rfl, .inl rfl⟩
        · next r _ =>
          refine .inr ⟨rfl, ?_, ?_, o, l, r, rfl⟩
          · have htake : ∀ p ∈ (s.arm st.arm).takeTests st, p.1 = true := fun p hp =>
              hpass p (by simp [State.acceptanceTests, hp])
            cases hx : (s.arm st.arm).status with
            | segment g => simp [Arm.takeTests, hx] at htake
            | _ => simp [State.seg?, Arm.seg?, hx]
          · have hreach := hpass ((s.arm st.arm).reach.contains st.bay && !(s.arm st.arm).products.isEmpty, .wrongArm)
              (by simp [State.acceptanceTests])
            simp only [Bool.and_eq_true, List.contains_iff_mem] at hreach
            exact hreach.1

/-- The arm with its claim and its fresh segment, before the records of the acceptance (R54, R55, R59). -/
def claimed (st : Start) (o : Order) (l : Line) (r : Reservation) (s : State) : State :=
  (s.modArm st.arm fun x => { x with claim := some st.bay }).setArmStatus st.arm
    (.segment (freshSegment o.orderNo l.compartment st.bay st.origin r.presetMl r.reservedL r.trimmed))

theorem claimed_arm (st : Start) (o : Order) (l : Line) (r : Reservation) (s : State) :
    (claimed st o l r s).arm st.arm = { s.arm st.arm with
        status := .segment (freshSegment o.orderNo l.compartment st.bay st.origin r.presetMl r.reservedL r.trimmed)
        claim := some st.bay }
      ∧ ∀ c, c ≠ st.arm → (claimed st o l r s).arm c = s.arm c := by
  refine ⟨by simp [claimed], fun c hc => ?_⟩
  rw [claimed, setArmStatus_arm_ne hc, State.modArm_arm_ne s hc]

/-- The records of an acceptance reach no arm, no class wait queue and no profile (R59 steps 2 to 5). -/
theorem still_acceptStart (st : Start) (o : Order) (l : Line) (r : Reservation) (s : State) :
    Still (claimed st o l r s) (s.acceptStart st o l r) :=
  ((((Still.refl _).reserveNote o st.bay).modPermit _ _).modLine _ _ _).bayAccepts st _

theorem acceptStart_carries {st : Start} (o : Order) (l : Line) (r : Reservation) (hseg : s.seg? st.arm = none)
    (hreach : st.bay ∈ (s.arm st.arm).reach) :
    Carries s (s.acceptStart st o l r) ∧ Bare st.arm (s.acceptStart st o l r) := by
  obtain ⟨harm, hne⟩ := claimed_arm st o l r s
  have hstill := still_acceptStart st o l r s
  have hheld : held (claimed st o l r s) = held s ∧ held s st.arm = none := by
    refine ⟨funext fun c => ?_, by simp [held, hseg]⟩
    by_cases hc : c = st.arm
    · subst hc; rw [held, held, hseg]; simp [State.seg?, harm, Arm.seg?, freshSegment]
    · simp only [held, State.seg?, hne c hc]
  have hwanting : wanting (claimed st o l r s) = wanting s ∧ wanting s st.arm = false := by
    refine ⟨funext fun c => ?_, by simp [wanting, hseg]⟩
    by_cases hc : c = st.arm
    · subst hc; rw [wanting, wanting, hseg]; simp [State.seg?, harm, Arm.seg?, freshSegment]
    · simp only [wanting, State.seg?, hne c hc]
  have hcache : (claimed st o l r s).cache = s.cache := by simp [claimed]
  constructor
  · refine Carries.trans ⟨fun hs c => ?_, fun hs => ?_⟩ hstill.claimsCache
    · by_cases hc : c = st.arm
      · subst hc; rw [harm]; exact ⟨rfl, hreach⟩
      · rw [hne c hc]; exact hs c
    · rw [cacheKept_iff] at hs ⊢
      rw [entry_of_entries (s := s) (t := claimed st o l r s) (by rw [hcache]), hcache, hheld.1, hwanting.1]
      exact hs
  · have hheld' : held (s.acceptStart st o l r) st.arm = held (claimed st o l r s) st.arm
        ∧ wanting (s.acceptStart st o l r) st.arm = wanting (claimed st o l r s) st.arm := by
      have h1 := (hstill.arms st.arm).2
      simp only [held, wanting, State.seg?]
      rw [holding, holding] at h1
      cases hx : ((claimed st o l r s).arm st.arm).seg? <;> cases hy : ((s.acceptStart st o l r).arm st.arm).seg? <;> simp_all
    exact ⟨by rw [hheld'.1, hheld.1, hheld.2], by rw [hheld'.2, hwanting.1, hwanting.2]⟩

/-! ## The lookup -/

/-- A hit is a valid entry of the meter that is not dropping and matches the product (R104). -/
theorem lookup_some {c : Cache} {meter product : Nat} {e : EntryId} (h : c.lookup meter product = some e) :
    ∃ x, c.entries[e] = some x ∧ x.matchesProduct meter product = true ∧ x.dropping = false := by
  obtain ⟨span, -, hfind⟩ := List.exists_of_findSome?_eq_some h
  have := List.find?_some hfind
  simp only [Option.any_eq_true, Bool.and_eq_true, Bool.not_eq_true'] at this
  obtain ⟨x, hx, ⟨hm, hd⟩, -⟩ := this
  exact ⟨x, hx, hm, hd⟩

/-- A pin to an arm's segment, which held and wanted nothing, of an entry of the arm's meter (R106). -/
theorem pin_cache {a : ArmId} {e : EntryId} {x : Entry} (hs : CacheKept s) (ha : Bare a s) (hsome : (s.seg? a).isSome = true)
    (hx : s.entry e = some x) (hm : x.meter = a.val) : CacheKept (s.pin a e) := by
  rw [cacheKept_iff] at hs ⊢
  have hheld : held (s.pin a e) = Function.update (held s) a (some e) := by
    rw [State.pin, held_modSeg]
    have h1 : held (s.modEntry e fun x => { x with pinCount := 1 }) = held s := held_of_arms rfl
    obtain ⟨g, hg⟩ := Option.isSome_iff_exists.1 hsome
    rw [h1, State.modEntry_seg?, hg]; rfl
  have hwanting : wanting (s.pin a e) = wanting s := by
    rw [State.pin, wanting_modSeg]
    exact Function.update_eq_self a (wanting s)
  rw [hheld, hwanting]
  change PinsKept (s.modEntry e fun x => { x with pinCount := 1 }).entry s.cache.recency s.cache.wants _ _
  rw [entry_modEntry, hx]
  exact hs.pin hx hm ha.1 ha.2

theorem pin_claims (hs : ClaimsKept s) (a : ArmId) (e : EntryId) : ClaimsKept (s.pin a e) :=
  claimsKept_modSeg a (fun _ => rfl) (claimsKept_of_arms rfl hs)

/-- A valid entry moved to the front of the recency list (R105). -/
theorem toFront_carries {e : EntryId} (he : (s.entry e).isSome = true) : Carries s { s with cache := s.cache.toFront e } where
  claims hs := claimsKept_of_arms rfl hs
  cache hs := by
    rw [cacheKept_iff] at hs ⊢
    exact hs.toFront he

theorem placeWant_carries {a : ArmId} (product : Nat) (ha : Bare a s) (hsome : (s.seg? a).isSome = true) :
    Carries s (s.placeWant a product) where
  claims hs := claimsKept_modSeg a (fun _ => rfl) (claimsKept_of_arms (by simp) hs)
  cache hs := by
    obtain ⟨g, hg⟩ := Option.isSome_iff_exists.1 hsome
    have harms : (s.setWants (s.cache.wants ++ [⟨a, a.val, product, s.clock.minute⟩])).arms = s.arms := by simp
    have hheld : held (s.placeWant a product) = held s := by
      rw [State.placeWant, held_modSeg, held_of_arms harms, seg?_of_arms harms]
      exact Function.update_eq_self a (held s)
    have hwanting : wanting (s.placeWant a product) = Function.update (wanting s) a true := by
      rw [State.placeWant, wanting_modSeg, wanting_of_arms harms, seg?_of_arms harms, hg]; rfl
    have hcache : (s.placeWant a product).cache
        = { s.cache with wants := s.cache.wants ++ [⟨a, a.val, product, s.clock.minute⟩] } := by
      simp [State.placeWant, State.setWants]
    rw [cacheKept_iff] at hs ⊢
    rw [entry_of_entries (s := s) (t := s.placeWant a product) (by rw [hcache]), hcache, hheld, hwanting]
    exact hs.place rfl rfl ha.1 ha.2

/-- The lookup of a segment that holds and wants nothing: it pins a matching entry, or places a want (R61, R106, R109). -/
theorem enterProfile_carries {a : ArmId} (product : Nat) (ha : Bare a s) (hsome : (s.seg? a).isSome = true) :
    Carries s (s.enterProfile a product).1 := by
  unfold State.enterProfile
  split
  · next e he =>
    obtain ⟨x, hx, hmatch, -⟩ := lookup_some he
    have hm : x.meter = a.val := by
      simp only [Entry.matchesProduct, Bool.and_eq_true, beq_iff_eq] at hmatch
      exact hmatch.1
    have h1 : Carries s (s.pin a e) := ⟨fun hs => pin_claims hs a e, fun hs => pin_cache hs ha hsome hx hm⟩
    have h2 : Carries (s.pin a e) (s.hit a e) := toFront_carries (by
      have hx' : s.entry e = some x := hx
      rw [State.pin, State.modSeg_entry, entry_modEntry, hx', Function.update_self]; rfl)
    exact (h1.trans h2).trans ((Still.refl _).modSeg a (by exact fun _ => ⟨rfl, rfl, rfl⟩)).claimsCache
  · exact placeWant_carries product ha hsome

/-- The lookup leaves the other arms and the class wait queues, and only the segment's own part follows it (R61). -/
theorem enterProfile_frame (s : State) (a : ArmId) (product : Nat) :
    (∀ c, c ≠ a → (s.enterProfile a product).1.arm c = s.arm c) ∧ (s.enterProfile a product).1.dosing = s.dosing
      ∧ ∀ j ∈ (s.enterProfile a product).2, j = .enterInjector a := by
  unfold State.enterProfile
  split
  · exact ⟨fun c hc => by rw [State.modSeg, State.modArm_arm_ne _ hc]; exact State.modArm_arm_ne _ hc _, rfl, by simp⟩
  · refine ⟨fun c hc => ?_, by simp [State.placeWant], by simp⟩
    rw [State.placeWant, State.modSeg, State.modArm_arm_ne _ hc, State.setWants_arm]

/-- An offered start carries the claims and the cache over (R53, R56, R59, R61). -/
theorem offerStart_carries (st : Start) (s : State) : Carries s (s.offerStart st).state := by
  rcases offerStart_cases st s with ⟨-, -, h | h⟩ | ⟨-, hseg, hreach, o, l, r, heq⟩
  · rw [h]; exact .refl s
  · rw [h]; exact ((Still.refl s).occurBusy _ _).claimsCache
  · obtain ⟨hcar, hbare⟩ := acceptStart_carries o l r hseg hreach
    have hsome : ((s.acceptStart st o l r).seg? st.arm).isSome = true := by
      have h1 := ((still_acceptStart st o l r s).arms st.arm).2
      rw [holding, holding, (claimed_arm st o l r s).1] at h1
      simp only [State.seg?]
      cases hx : ((s.acceptStart st o l r).arm st.arm).seg? with
      | none => rw [hx] at h1; cases h1
      | some _ => rfl
    rw [show (s.offerStart st).state = ((s.acceptStart st o l r).enterProfile st.arm l.product).1 from congrArg Prod.fst heq]
    exact hcar.trans (enterProfile_carries l.product hbare hsome)

/-- An ended segment stays so while a start is offered: an arm with a segment is refused (R57). -/
theorem offerStart_ended (st : Start) {a : ArmId} (h : Ended a s) :
    Ended a (s.offerStart st).state ∧ ∀ j ∈ (s.offerStart st).jobs, ∃ c, c ≠ a ∧ j = .enterInjector c := by
  rcases offerStart_cases st s with ⟨-, hjobs, h' | h'⟩ | ⟨-, hseg, -, o, l, r, heq⟩
  · rw [h', hjobs]; exact ⟨h, by simp⟩
  · rw [h', hjobs]; exact ⟨((Still.refl s).occurBusy _ _).ended h, by simp⟩
  · have hne : st.arm ≠ a := by
      rintro rfl
      have h1 := h.1
      simp only [State.seg?] at hseg
      rw [holding, hseg] at h1
      cases h1
    obtain ⟨hne', hdosing, hjobs⟩ := enterProfile_frame (s.acceptStart st o l r) st.arm l.product
    rw [show (s.offerStart st).state = ((s.acceptStart st o l r).enterProfile st.arm l.product).1 from congrArg Prod.fst heq,
      show (s.offerStart st).jobs = ((s.acceptStart st o l r).enterProfile st.arm l.product).2 from congrArg Prod.snd heq]
    have hclaimed : Ended a (claimed st o l r s) := by
      refine ⟨?_, ?_⟩
      · rw [(claimed_arm st o l r s).2 a (Ne.symm hne)]; exact h.1
      · have hq : (claimed st o l r s).dosing = s.dosing := by simp [claimed]
        rw [Unqueued, hq]; exact h.2
    have hacc := (still_acceptStart st o l r s).ended hclaimed
    refine ⟨⟨?_, ?_⟩, fun j hj => ⟨st.arm, hne, hjobs j hj⟩⟩
    · rw [hne' a (Ne.symm hne)]; exact hacc.1
    · rw [Unqueued, hdosing]; exact hacc.2

/-! ## The entry into AWAIT_INJECTOR -/

/-- The components asked for by an arm leave the claims, the cache and what the segments hold, and only that arm joins a queue
(R62, R130). -/
theorem askComponents_calm (a : ArmId) (i : Nat) (cs : List Component) (s : State) :
    Calm s (State.askComponents a i cs s) ∧ ∀ c, c ≠ a → Unqueued c s → Unqueued c (State.askComponents a i cs s) := by
  induction cs generalizing i s with
  | nil => exact ⟨.refl s, fun _ _ => id⟩
  | cons c cs ih =>
    have hone : Calm s (s.askComponent a i c) ∧ ∀ d, d ≠ a → Unqueued d s → Unqueued d (s.askComponent a i c) := by
      have h := Still.refl s
      unfold State.askComponent
      split
      · have h1 := h.startClaim a ‹_› i c
        exact ⟨h1.toCalm, fun d _ => h1.queues d⟩
      · split
        · refine ⟨⟨rfl, fun _ => .refl _⟩, fun d hd hq => unqueued_setQueue (fun w hw => ?_) hq⟩
          rcases List.mem_append.1 hw with hw | hw
          · exact unqueued_queue c.cls hq w hw
          · obtain rfl : w = ⟨a, i, s.clock.minute⟩ := by simpa using hw
            exact Ne.symm hd
        · have h1 := h.modSeg a (f := fun g => { g with undosed := g.undosed ||| BitVec.twoPow 3 (i - 1) }) fun _ => ⟨rfl, rfl, rfl⟩
          exact ⟨h1.toCalm, fun d _ => h1.queues d⟩
    obtain ⟨hc, hq⟩ := ih (i + 1) (s.askComponent a i c)
    exact ⟨hone.1.trans hc, fun d hd h => hq d hd (hone.2 d hd h)⟩

/-- The entry into AWAIT_INJECTOR, and what follows from it: the arm's own completion or end (R62, R64). -/
theorem enterInjector_calm (a : ArmId) (s : State) :
    Calm s (s.enterInjector a).1 ∧ (∀ c, c ≠ a → Unqueued c s → Unqueued c (s.enterInjector a).1)
      ∧ ∀ j ∈ (s.enterInjector a).2, j = .complete a ∨ j = .endSegment a .noRecipe := by
  unfold State.enterInjector
  split
  · exact ⟨.refl s, fun _ _ => id, by simp⟩
  · split
    · exact ⟨.refl s, fun _ _ => id, by simp⟩
    · split
      · exact ⟨.refl s, fun _ _ => id, by simp⟩
      · exact ⟨.refl s, fun _ _ => id, by simp⟩
      · next _ cs _ _ =>
        obtain ⟨hc, hq⟩ := askComponents_calm a 1 cs s
        dsimp only
        split
        · exact ⟨hc, hq, by simp⟩
        · have h1 := (Still.refl (State.askComponents a 1 cs s)).modSeg a
            (f := fun g' => { g' with injectorTimer := some Config.injectorWaitMs }) fun _ => ⟨rfl, rfl, rfl⟩
          exact ⟨hc.trans h1.toCalm, fun c hca h => h1.queues c (hq c hca h), by simp⟩

end Sys2Proof.Machine.Arming
end

section
/-! The run of an event's parts: each part carries the claims and the cache over, and what is put before the rest leaves the ends
under way as they are (R74, R131, R141). -/

namespace Sys2Proof.Machine.Arming

variable {s t : State}

/-- The arm whose segment a part of an event may bring to its end. -/
def jobArm : Job → Option ArmId
  | .endSegment a _ => some a
  | .endGrouped a _ => some a
  | .finishEnd a _ => some a
  | .enterInjector a => some a
  | .complete a => some a
  | .releaseClaim _ _ => none
  | .bayEnd _ _ _ => none
  | .settleBay _ => none
  | .resume _ _ => none
  | .grant _ => none

/-- A part before another brings no end at an arm whose end the other finishes. -/
def Apart (i j : Job) : Prop := ∀ a cause, j = .finishEnd a cause → jobArm i ≠ some a

/-- No part of a list finishes an end. -/
def NoFinish (js : List Job) : Prop := ∀ a cause, .finishEnd a cause ∉ js

theorem NoFinish.apart {js : List Job} (h : NoFinish js) : js.Pairwise Apart :=
  List.pairwise_of_forall_mem_list fun _ _ _ hj a cause he => absurd (he ▸ hj) (h a cause)

/-- The parts of an event that wait: each end to be finished is past its pin and its want, and nothing before it ends that arm. -/
structure Guarded (s : State) (js : List Job) : Prop where
  ended : ∀ a cause, .finishEnd a cause ∈ js → Ended a s
  apart : js.Pairwise Apart

theorem NoFinish.guarded {js : List Job} (h : NoFinish js) (s : State) : Guarded s js :=
  ⟨fun a cause hj => absurd hj (h a cause), h.apart⟩

/-- What a part leaves to the parts behind it: ended segments of other arms, and parts that follow from it in their order. -/
structure Follows (j : Job) (s : State) : Prop where
  carries : (∀ a cause, j = .finishEnd a cause → Ended a s) → Carries s (doJob j s).1
  ended : ∀ a, Ended a s → jobArm j ≠ some a → Ended a (doJob j s).1
  others : ∀ a, Ended a s → jobArm j ≠ some a → ∀ i ∈ (doJob j s).2, jobArm i ≠ some a
  guarded : Guarded (doJob j s).1 (doJob j s).2

/-- A part that leaves every arm going on and is followed by parts of no arm that is ending. -/
theorem Follows.of_still {j : Job} (h : Still s (doJob j s).1)
    (hjobs : ∀ i ∈ (doJob j s).2, ∀ a, Ended a s → jobArm j ≠ some a → jobArm i ≠ some a) (hno : NoFinish (doJob j s).2) :
    Follows j s :=
  ⟨fun _ => h.claimsCache, fun _ ha _ => h.ended ha, fun a ha hj i hi => hjobs i hi a ha hj, hno.guarded _⟩

theorem follows_endSegment (a : ArmId) (cause : EndCause) (s : State) : Follows (.endSegment a cause) s := by
  cases hg : s.seg? a with
  | none =>
    have hdo : doJob (.endSegment a cause) s = (s, []) := by simp [doJob, hg]
    exact .of_still (by rw [hdo]; exact .refl s) (by simp [hdo]) (by simp [hdo, NoFinish])
  | some g =>
    have hdo : doJob (.endSegment a cause) s = (s.endSteps a cause,
        g.claims.map (fun c => Job.releaseClaim a c.injector) ++ [.finishEnd a cause, .bayEnd g.bay a cause]) := by
      simp [doJob, hg]
    refine ⟨fun _ => ?_, fun c hc hca => ?_, fun c _ hca i hi => ?_, fun c cause' hc => ?_, ?_⟩ <;> rw [hdo] at *
    · exact endSteps_carries s a cause
    · exact endSteps_ended_ne (fun h => hca (by rw [h]; rfl)) cause hc
    · rw [List.mem_append, List.mem_map] at hi
      rcases hi with ⟨k, -, rfl⟩ | hi
      · simp [jobArm]
      · simp only [List.mem_cons, List.not_mem_nil, or_false] at hi
        rcases hi with rfl | rfl
        · exact hca
        · simp [jobArm]
    · obtain ⟨rfl, -⟩ : c = a ∧ cause' = cause := by simpa using hc
      exact endSteps_ended hg cause
    · rw [List.pairwise_append]
      refine ⟨?_, ?_, ?_⟩
      · refine NoFinish.apart fun c cause' hc => ?_
        simp at hc
      · simp [Apart, jobArm]
      · intro i hi j hj c cause' _
        obtain ⟨k, -, rfl⟩ := List.mem_map.1 hi
        simp [jobArm]

theorem follows_endGrouped (a : ArmId) (cause : EndCause) (s : State) : Follows (.endGrouped a cause) s := by
  cases hg : s.seg? a with
  | none =>
    have hdo : doJob (.endGrouped a cause) s = (s, []) := by simp [doJob, hg]
    exact .of_still (by rw [hdo]; exact .refl s) (by simp [hdo]) (by simp [hdo, NoFinish])
  | some g =>
    have hdo : doJob (.endGrouped a cause) s = (s.endAtArm a cause, [.bayEnd g.bay a cause]) := by simp [doJob, hg]
    refine ⟨fun _ => ?_, fun c hc hca => ?_, fun c _ _ i hi => ?_, ?_⟩ <;> rw [hdo] at *
    · exact endAtArm_carries s a cause
    · exact endAtArm_ended_ne (fun h => hca (by rw [h]; rfl)) cause hc
    · simp only [List.mem_singleton] at hi
      rw [hi]
      simp [jobArm]
    · exact NoFinish.guarded (by simp [NoFinish]) _

theorem follows_finishEnd (a : ArmId) (cause : EndCause) (s : State) : Follows (.finishEnd a cause) s := by
  have hdo : doJob (.finishEnd a cause) s = (s.finishEnd a cause, []) := rfl
  refine ⟨fun h => ?_, fun c hc hca => ?_, fun c _ _ i hi => ?_, ?_⟩ <;> rw [hdo] at *
  · exact ⟨fun hs => finishEnd_claims hs a cause, fun hs => finishEnd_cache hs (h a cause rfl).bare cause⟩
  · obtain ⟨hne, -, hdosing⟩ := finishEnd_frame s a cause
    refine ⟨?_, by rw [Unqueued, hdosing]; exact hc.2⟩
    rw [hne c fun h => hca (by rw [h]; rfl)]
    exact hc.1
  · simp at hi
  · exact NoFinish.guarded (by simp [NoFinish]) _

theorem follows_resume (b : BayId) (a : ArmId) (s : State) : Follows (.resume b a) s := by
  have hdo : doJob (.resume b a) s = s.resume b a := rfl
  have hrefused : ∀ t, Still s t → ∀ r, t.seg? a = none → Still s (t.resumeRefused b a r) :=
    fun t h r ha => (h.releaseArm ha).prompt b (.refused r)
  cases hst : (s.arm a).status with
  | resumeWait no c =>
    have hnone : s.seg? a = none := by simp [State.seg?, Arm.seg?, hst]
    by_cases hmax : (s.line? no c).any fun l => Config.maxSegments ≤ l.segmentsUsed
    · have hres : s.resume b a = (s.resumeRefused b a .lineDone, []) := by simp only [State.resume, hst, hmax, if_true]
      exact .of_still (by rw [hdo, hres]; exact hrefused s (.refl s) _ hnone) (by simp [hdo, hres]) (by simp [hdo, hres, NoFinish])
    · rcases offerStart_cases ⟨b, a, c, .resume⟩ s with ⟨href, -, hstate⟩ | ⟨href, -⟩
      · obtain ⟨r, hr⟩ := Option.ne_none_iff_exists'.1 href
        have hres : s.resume b a = ((s.offerStart ⟨b, a, c, .resume⟩).state.resumeRefused b a r, []) := by
          simp only [State.resume, hst, hmax, hr, Bool.false_eq_true, if_false]
        have hstill : Still s (s.offerStart ⟨b, a, c, .resume⟩).state := by
          rcases hstate with h | h <;> rw [h]
          · exact .refl s
          · exact (Still.refl s).occurBusy _ _
        have hnone' : (s.offerStart ⟨b, a, c, .resume⟩).state.seg? a = none := by
          rcases hstate with h | h <;> rw [h]
          · exact hnone
          · exact hnone
        exact .of_still (by rw [hdo, hres]; exact hrefused _ hstill r hnone') (by simp [hdo, hres]) (by simp [hdo, hres, NoFinish])
      · have hres : s.resume b a = ((s.offerStart ⟨b, a, c, .resume⟩).state, (s.offerStart ⟨b, a, c, .resume⟩).jobs) := by
          simp only [State.resume, hst, hmax, href, Bool.false_eq_true, if_false]
        refine ⟨fun _ => ?_, fun d hd _ => ?_, fun d hd _ i hi => ?_, ?_⟩ <;> rw [hdo, hres] at *
        · exact offerStart_carries _ s
        · exact (offerStart_ended _ hd).1
        · obtain ⟨x, hx, rfl⟩ := (offerStart_ended _ hd).2 i hi
          exact fun h => hx (Option.some.inj h)
        · refine NoFinish.guarded (fun d cause hd => ?_) _
          rcases offerStart_cases ⟨b, a, c, .resume⟩ s with ⟨-, hjobs, -⟩ | ⟨-, -, -, o, l, r, heq⟩
          · simp [hjobs] at hd
          · rw [show (s.offerStart ⟨b, a, c, .resume⟩).jobs = _ from congrArg Prod.snd heq] at hd
            cases (enterProfile_frame _ _ _).2.2 _ hd
  | _ =>
    have hres : s.resume b a = (s, []) := by simp [State.resume, hst]
    exact .of_still (by rw [hdo, hres]; exact .refl s) (by simp [hdo, hres]) (by simp [hdo, hres, NoFinish])

theorem follows_enterInjector (a : ArmId) (s : State) : Follows (.enterInjector a) s := by
  obtain ⟨hcalm, hq, hjobs⟩ := enterInjector_calm a s
  refine ⟨fun _ => hcalm.carries, fun c hc hca => ⟨(hcalm.arms c).2.trans hc.1, hq c (fun h => hca (by rw [h]; rfl)) hc.2⟩,
    fun c _ hca i hi => ?_, NoFinish.guarded (fun c cause hc => ?_) _⟩
  · rcases hjobs i hi with rfl | rfl <;> exact hca
  · rcases hjobs _ hc with h | h <;> cases h

theorem completeAcquisition_jobs (a : ArmId) (s : State) :
    ∀ j ∈ (s.completeAcquisition a).2, j = .endSegment a .serialSpent := by
  unfold State.completeAcquisition
  split
  · simp
  · split
    · simp
    · split <;> simp

theorem follows_complete (a : ArmId) (s : State) : Follows (.complete a) s := by
  refine .of_still ((Still.refl s).completeAcquisition a) (fun i hi c _ hca => ?_) fun c cause hc => ?_
  · rw [completeAcquisition_jobs a s i hi]; exact hca
  · cases completeAcquisition_jobs a s _ hc

/-- What follows a grant is the completion of the granted waiter, who stood in a queue (R63, R131). -/
theorem grant_jobs (k : InjId) (s : State) : ∀ j ∈ (s.grant k).2, ∃ a, ¬ Unqueued a s ∧ j = .complete a := by
  unfold State.grant
  dsimp only
  split
  · simp
  · split
    · simp
    · next w hw =>
      have hin : ¬ Unqueued w.arm s := fun h => unqueued_queue _ h w (List.mem_of_find?_eq_some hw) rfl
      split
      · simp
      · split
        · simp
        · split
          · simpa using hin
          · simp

theorem follows_grant (k : InjId) (s : State) : Follows (.grant k) s := by
  refine .of_still ((Still.refl s).grant k) (fun i hi c hc _ => ?_) fun c cause hc => ?_
  · obtain ⟨a, ha, rfl⟩ := grant_jobs k s i hi
    exact fun h => ha (Option.some.inj h ▸ hc.2)
  · obtain ⟨a, -, h⟩ := grant_jobs k s _ hc
    cases h

/-- What follows an end at its bay is a resume or the bay's last step (R41). -/
theorem bayEnd_jobs (b : BayId) (a : ArmId) (cause : EndCause) (s : State) :
    ∀ j ∈ (s.bayEnd b a cause).2, j = .resume b a ∨ j = .settleBay b := by
  unfold State.bayEnd
  dsimp only
  split
  · split <;> simp
  all_goals simp

theorem follows_bayEnd (b : BayId) (a : ArmId) (cause : EndCause) (s : State) : Follows (.bayEnd b a cause) s := by
  refine .of_still ((Still.refl s).bayEnd b a cause) (fun i hi c _ _ => ?_) fun c cause' hc => ?_
  · rcases bayEnd_jobs b a cause s i hi with rfl | rfl <;> simp [jobArm]
  · rcases bayEnd_jobs b a cause s _ hc with h | h <;> cases h

theorem follows_releaseClaim (a : ArmId) (k : InjId) (s : State) : Follows (.releaseClaim a k) s := by
  have hjobs : ∀ j ∈ (doJob (.releaseClaim a k) s).2, j = .grant k := by
    simp only [doJob]
    split <;> simp
  refine .of_still ((Still.refl s).releaseClaim a k) (fun i hi c _ _ => ?_) fun c cause hc => ?_
  · rw [hjobs i hi]; simp [jobArm]
  · cases hjobs _ hc

/-- Every part of an event. -/
theorem follows (j : Job) (s : State) : Follows j s := by
  cases j with
  | endSegment a cause => exact follows_endSegment a cause s
  | endGrouped a cause => exact follows_endGrouped a cause s
  | releaseClaim a k => exact follows_releaseClaim a k s
  | finishEnd a cause => exact follows_finishEnd a cause s
  | bayEnd b a cause => exact follows_bayEnd b a cause s
  | settleBay b => exact .of_still ((Still.refl s).settleBay b) (by simp [doJob]) (by simp [doJob, NoFinish])
  | resume b a => exact follows_resume b a s
  | enterInjector a => exact follows_enterInjector a s
  | complete a => exact follows_complete a s
  | grant k => exact follows_grant k s

/-- The parts of an event behind one that has been taken, with those that follow from it before them. -/
theorem Guarded.next {j : Job} {js : List Job} (h : Guarded s (j :: js)) :
    Guarded (doJob j s).1 ((doJob j s).2 ++ js) := by
  obtain ⟨-, hended, hothers, hout⟩ := follows j s
  obtain ⟨hj, hjs⟩ := List.pairwise_cons.1 h.apart
  have hrest : ∀ a cause, .finishEnd a cause ∈ js → Ended a s ∧ jobArm j ≠ some a := fun a cause ha =>
    ⟨h.ended a cause (List.mem_cons_of_mem _ ha), hj _ ha a cause rfl⟩
  refine ⟨fun a cause ha => ?_, List.pairwise_append.2 ⟨hout.apart, hjs, fun i hi k hk a cause he => ?_⟩⟩
  · rcases List.mem_append.1 ha with ha | ha
    · exact hout.ended a cause ha
    · exact hended a (hrest a cause ha).1 (hrest a cause ha).2
  · obtain ⟨h1, h2⟩ := hrest a cause (he ▸ hk)
    exact hothers a h1 h2 i hi

/-- A run of an event's parts carries the claims and the cache over. -/
theorem runJobs_carries (n : Nat) (js : List Job) (s : State) (h : Guarded s js) : Carries s (runJobs n js s) := by
  induction n generalizing js s with
  | zero => exact .refl s
  | succ n ih =>
    cases js with
    | nil => exact .refl s
    | cons j js =>
      rw [runJobs_cons]
      refine ((follows j s).carries fun a cause hj => h.ended a cause (by simp [hj])).trans (ih _ _ h.next)

/-- An event carries the claims and the cache over when its first part does and finishes no end itself. -/
theorem settle_carries {r : State × List Job} (h : Carries s r.1) (hno : NoFinish r.2) : Carries s (settle r) :=
  h.trans (runJobs_carries _ _ _ (hno.guarded _))

end Sys2Proof.Machine.Arming
end

section
/-! The owners of the requests carry the claims and the cache over (R189, R194): most leave the arms, the profile cache and the class
wait queues as they are; ARM SET, the stops and the profile requests do not. -/

namespace Sys2Proof.Machine.Arming

variable {s t : State}

/-- A command's own effect with the parts of its event that follow. -/
structure Event (s : State) (r : State × List Job) : Prop where
  carries : Carries s r.1
  noFinish : NoFinish r.2

theorem Event.settled {r : State × List Job} (h : Event s r) : Carries s (settle r) := settle_carries h.carries h.noFinish

theorem NoFinish.nil : NoFinish [] := by simp [NoFinish]

/-- A command that leaves the arms going on and the cache as it is, with parts that finish no end. -/
theorem Event.of_still {r : State × List Job} (h : Still s r.1) (hno : NoFinish r.2) : Event s r := ⟨h.claimsCache, hno⟩

/-! ## Requests that reach neither arms, nor profiles, nor class wait queues -/

theorem still_onPermit {b : List Byte} {f : Permit → State × Answer} (hf : ∀ p, Still s (f p).1) : Still s (onPermit b s f).1 := by
  unfold onPermit
  split
  · exact .refl s
  · split
    · exact .refl s
    · split
      · exact .refl s
      · exact hf _

theorem still_permitPut (b : List Byte) (s : State) : Still s (permitPut b s).1 := by
  unfold permitPut putPermit
  repeat' split
  all_goals exact .of_same rfl rfl rfl

theorem still_permitSuspend (b : List Byte) (s : State) : Still s (permitSuspend b s).1 :=
  still_onPermit fun p => by split <;> exact .of_same rfl rfl rfl

theorem still_permitResume (b : List Byte) (s : State) : Still s (permitResume b s).1 :=
  still_onPermit fun p => by split <;> exact .of_same rfl rfl rfl

theorem still_permitUnlock (b : List Byte) (s : State) : Still s (permitUnlock b s).1 :=
  still_onPermit fun p => by split <;> exact .of_same rfl rfl rfl

theorem still_permitRetire (b : List Byte) (s : State) : Still s (permitRetire b s).1 :=
  still_onPermit fun p => by
    split
    · exact .refl s
    · split <;> exact .of_same rfl rfl rfl

theorem still_permitGet (b : List Byte) (s : State) : Still s (permitGet b s).1 := still_onPermit fun _ => .refl s

theorem still_walk (b : List Byte) (s : State) : Still s (walk b s).1 := by
  unfold walk
  repeat' split
  all_goals exact .refl s

theorem still_orderPost (b : List Byte) (s : State) : Still s (orderPost b s).1 := by
  unfold orderPost postOrder
  repeat' split
  all_goals exact .of_same rfl rfl rfl

theorem still_onOrder {b : List Byte} {f : Order → State × Answer} (hf : ∀ o, Still s (f o).1) : Still s (onOrder b s f).1 := by
  unfold onOrder
  split
  · exact .refl s
  · split
    · exact .refl s
    · exact hf _

theorem still_orderCancel (b : List Byte) (s : State) : Still s (orderCancel b s).1 :=
  still_onOrder fun o => by
    split
    · exact (Still.refl s).removeOrder _
    · exact .refl s
    · split
      · exact (Still.refl s).removeOrder _
      · exact (Still.refl s).cancelBound _ _

theorem still_orderGet (b : List Byte) (s : State) : Still s (orderGet b s).1 := still_onOrder fun _ => .refl s

theorem still_referralList (b : List Byte) (s : State) : Still s (referralList b s).1 := by
  unfold referralList; split <;> exact .refl s

theorem still_recipePut (b : List Byte) (s : State) : Still s (recipePut b s).1 := by
  unfold recipePut
  split
  · exact .refl s
  · split
    · exact .refl s
    · dsimp only
      repeat' split
      all_goals exact .of_same rfl rfl rfl

theorem still_recipeGet (b : List Byte) (s : State) : Still s (recipeGet b s).1 := by
  unfold recipeGet
  repeat' split
  all_goals exact .refl s

theorem still_recipeRetire (b : List Byte) (s : State) : Still s (recipeRetire b s).1 := by
  unfold recipeRetire
  repeat' split
  all_goals exact .of_same rfl rfl rfl

theorem still_recipeList (b : List Byte) (s : State) : Still s (recipeList b s).1 := by
  unfold recipeList; split <;> exact .refl s

theorem still_injectorShot (b : List Byte) (s : State) : Still s (injectorShot b s).1 := by
  unfold injectorShot
  repeat' split
  all_goals exact .of_same rfl rfl rfl

theorem still_injectorGet (b : List Byte) (s : State) : Still s (injectorGet b s).1 := by
  unfold injectorGet
  repeat' split
  all_goals exact .refl s

theorem still_queueList (b : List Byte) (s : State) : Still s (queueList b s).1 := by
  unfold queueList
  repeat' split
  all_goals exact .refl s

theorem still_notePeek (b : List Byte) (s : State) : Still s (notePeek b s).1 := by
  unfold notePeek
  repeat' split
  all_goals exact .refl s

theorem still_noteTake (b : List Byte) (s : State) : Still s (noteTake b s).1 := by
  unfold noteTake
  repeat' split
  all_goals exact .of_same rfl rfl rfl

theorem still_noteList (b : List Byte) (s : State) : Still s (noteList b s).1 := by
  unfold noteList; split <;> exact .refl s

theorem still_serialSet (b : List Byte) (s : State) : Still s (serialSet b s).1 := by
  unfold serialSet
  repeat' split
  all_goals exact .of_same rfl rfl rfl

theorem still_setClock (day minute : Nat) (s : State) : Still s (s.setClock day minute) := by
  unfold State.setClock
  dsimp only
  split <;> exact .of_same rfl rfl rfl

theorem still_clockSet (b : List Byte) (s : State) : Still s (clockSet b s).1 := by
  unfold clockSet
  split
  · exact .refl s
  · split
    · exact .refl s
    · exact still_setClock _ _ s

theorem still_clockGet (b : List Byte) (s : State) : Still s (clockGet b s).1 := by
  unfold clockGet; split <;> exact .refl s

theorem still_attentionRead (b : List Byte) (s : State) : Still s (attentionRead b s).1 := by
  unfold attentionRead; split <;> exact .of_same rfl rfl rfl

theorem still_attentionEdges (b : List Byte) (s : State) : Still s (attentionEdges b s).1 := by
  unfold attentionEdges
  repeat' split
  all_goals exact .of_same rfl rfl rfl

theorem still_modeSet (b : List Byte) (s : State) : Still s (modeSet b s).1 := by
  unfold modeSet
  repeat' split
  all_goals exact .of_same rfl rfl rfl

theorem still_sealSet (b : List Byte) (s : State) : Still s (sealSet b s).1 := by
  unfold sealSet
  repeat' split
  all_goals exact .of_same rfl rfl rfl

theorem still_settingsGet (b : List Byte) (s : State) : Still s (settingsGet b s).1 := by
  unfold settingsGet; split <;> exact .refl s

theorem still_linkGet (b : List Byte) (s : State) : Still s (linkGet b s).1 := by
  unfold linkGet; split <;> exact .refl s

theorem still_restart (b : List Byte) (s : State) : Still s (restart b s).1 := by
  unfold restart; split <;> exact .refl s

theorem still_wantList (b : List Byte) (s : State) : Still s (wantList b s).1 := by
  unfold wantList; split <;> exact .refl s

theorem still_profileList (b : List Byte) (s : State) : Still s (profileList b s).1 := by
  unfold profileList; split <;> exact .refl s

theorem still_profileRead (b : List Byte) (s : State) : Still s (profileRead b s).1 := by
  unfold profileRead onTag
  split
  · exact .refl s
  · dsimp only
    repeat' split
    all_goals exact .refl s

/-! ## Arms -/

/-- An idle arm without a claim may take another reach (R52, R53). -/
theorem still_armSet (b : List Byte) (s : State) : Still s (armSet b s).1 := by
  unfold armSet
  dsimp only
  split
  · exact .refl s
  · split
    · next a reach _ _ =>
      split
      · unfold setArm
        split
        · next hidle =>
          refine (Still.refl s).modArm a (f := fun x => { x with reach := reach, products := _ }) ⟨fun h => ?_, by exact holding_of_status rfl⟩
          simp only [decide_eq_true_eq, Bool.and_eq_true] at hidle
          simpa [Arm.claimKept, hidle.1] using hidle.2
        · exact .refl s
      · exact .refl s
    · exact .refl s

theorem event_onArm {b : List Byte} {f : ArmId → State × Answer × List Job} (hf : ∀ a, Event s ((f a).1, (f a).2.2)) :
    Event s ((onArm b s f).1, (onArm b s f).2.2) := by
  unfold onArm
  split
  · exact .of_still (.refl s) .nil
  · split
    · exact .of_still (.refl s) .nil
    · exact hf _

theorem event_armGet (b : List Byte) (s : State) : Event s ((armGet b s).1, (armGet b s).2.2) :=
  event_onArm fun _ => .of_still (.refl s) .nil

/-- An offered start with the parts that follow from it. -/
theorem event_offerStart (st : Start) (s : State) : Event s ((s.offerStart st).state, (s.offerStart st).jobs) := by
  refine ⟨offerStart_carries st s, fun a cause hj => ?_⟩
  rcases offerStart_cases st s with ⟨-, hjobs, -⟩ | ⟨-, -, -, o, l, r, heq⟩
  · simp [hjobs] at hj
  · dsimp only at hj
    rw [show (s.offerStart st).jobs = _ from congrArg Prod.snd heq] at hj
    cases (enterProfile_frame _ _ _).2.2 _ hj

theorem event_armStart (b : List Byte) (s : State) : Event s ((armStart b s).1, (armStart b s).2.2) := by
  unfold armStart
  split
  · exact .of_still (.refl s) .nil
  · split
    · next bay a _ _ =>
      split
      · exact .of_still (.refl s) .nil
      · split
        · exact .of_still (.refl s) .nil
        · have h := event_offerStart ⟨bay, a, u8 b 2, .host⟩ s
          dsimp only
          split
          · exact h
          · exact ⟨h.carries, .nil⟩
    · exact .of_still (.refl s) .nil

theorem event_stopSegment (a : ArmId) (cause : EndCause) (s : State) : Event s (s.stopSegment a cause) := by
  unfold State.stopSegment
  split
  · exact .of_still (.refl s) .nil
  · split
    · exact .of_still (.refl s) (by simp [NoFinish])
    · exact .of_still ((Still.refl s).modSeg a (keepsHold_shut cause)) .nil

theorem still_cancelWait {a : ArmId} (h : s.seg? a = none) : Still s (s.cancelWait a) := by
  unfold State.cancelWait
  split
  · exact (Still.refl s).releaseArm h
  · exact ((Still.refl s).releaseArm h).prompt _ _

theorem event_armStop (b : List Byte) (s : State) : Event s ((armStop b s).1, (armStop b s).2.2) :=
  event_onArm fun a => by
    split
    · exact event_stopSegment a .stopped s
    · next h => exact .of_still (still_cancelWait (by simp [State.seg?, Arm.seg?, h])) .nil
    · exact .of_still (.refl s) .nil
    · exact .of_still (.refl s) .nil

theorem event_armClear (b : List Byte) (s : State) : Event s ((armClear b s).1, (armClear b s).2.2) :=
  event_onArm fun a => by
    split
    · next h =>
      refine .of_still (.of_arm (a := a) ?_ (fun c hc => setArmStatus_arm_ne hc s .idle) (by simp) (by simp)) .nil
      rw [setArmStatus_arm_self]
      simp [GoesOn, Arm.claimKept, holding, Arm.seg?, h]
    all_goals exact .of_still (.refl s) .nil

/-! ## Bays -/

theorem NoFinish.append {js ks : List Job} (h : NoFinish js) (h' : NoFinish ks) : NoFinish (js ++ ks) :=
  fun a cause hj => (List.mem_append.1 hj).elim (h a cause) (h' a cause)

theorem noFinish_heldGrants (s : State) (as : List ArmId) : NoFinish (s.heldGrants as) := by simp [NoFinish, State.heldGrants]

theorem noFinish_groupEnds (s : State) (as : List ArmId) (cause : EndCause) : NoFinish (s.groupEnds as cause) :=
  .append (by simp [NoFinish]) (noFinish_heldGrants s as)

theorem Still.shutBay (h : Still s t) (b : BayId) {f : Segment → Segment} (hf : KeepsHold f) : Still s (t.shutBay b f) :=
  h.foldl_modSeg _ hf

theorem event_loss (b : BayId) (s : State) : Event s (s.loss b) := by
  have h := Still.refl s
  unfold State.loss
  split
  · exact .of_still ((((h.modBay _ _).setBayState _ _).prompt _ _).shutBay b keepsHold_pause) (noFinish_groupEnds _ _ _)
  · exact .of_still (((h.modBay _ _).setBayState _ _).prompt _ _) .nil
  all_goals exact .of_still h .nil

theorem event_restore (b : BayId) (s : State) : Event s (s.restore b) := by
  have h := Still.refl s
  unfold State.restore
  split
  · exact .of_still h .nil
  · split
    · exact .of_still ((h.modBay _ _).setBayState _ _) (.append (by simp [NoFinish]) (by simp [NoFinish]))
    · split
      · exact .of_still (h.setBayState _ _) .nil
      · exact .of_still (h.cardedEntry b) .nil

theorem event_trip (b : BayId) (cause : EndCause) (s : State) : Event s (s.trip b cause) :=
  .of_still (((((((Still.refl s).modBay _ _).setBayState _ _).prompt _ _).releaseWaiting b).shutBay b (keepsHold_shut cause)))
    (noFinish_groupEnds _ _ _)

/-- An event behind a change that leaves the arms going on. -/
theorem Event.after {r : State × List Job} (h : Still s t) (h' : Event t r) : Event s r :=
  ⟨h.claimsCache.trans h'.carries, h'.noFinish⟩

theorem event_permissionChange (b : BayId) (before : Bool) (s : State) : Event s (s.permissionChange b before) := by
  unfold State.permissionChange
  split
  · exact event_loss b s
  · split
    · exact event_restore b s
    · exact .of_still (.refl s) .nil

theorem event_permissive (b : BayId) (i : Permissive) (v : Bool) (s : State) : Event s (s.permissive b i v) := by
  unfold State.permissive
  split
  · exact .of_still (.refl s) .nil
  · have h1 : Still s ((s.modBay b fun x => { x with inputs := setLevel i v x.inputs }).mark (.bay b)) :=
      ((Still.refl s).modBay _ _).mark _
    dsimp only
    split
    · split
      · exact .after h1 (event_trip b _ _)
      · exact .of_still h1 .nil
    · split
      · refine .of_still ?_ .nil
        dsimp only
        split
        · exact h1.cardedEntry b
        · exact h1
      · exact .after h1 (event_permissionChange b _ _)

theorem Still.dropReferral (h : Still s t) (b : BayId) : Still s (t.dropReferral b) := (h.setReferrals _).modBay _ _

theorem Still.endReferral (h : Still s t) (b : BayId) (st : BayState) (p : Prompt) : Still s (t.endReferral b st p) :=
  (((h.dropReferral b).modBay _ _).setBayState _ _).prompt _ _

/-- Every segment of a bay stopped: those in acquisition end, the others close (R31, R42). -/
theorem stopVisit_carries (b : BayId) (s : State) : Carries s (s.stopVisit b) := by
  unfold State.stopVisit
  have h1 := ((Still.refl s).modBay b fun x => { x with holdWindow := none }).releaseWaiting b
  have h2 := h1.shutBay b (keepsHold_shut .stopped)
  refine h2.claimsCache.trans ?_
  dsimp only
  generalize State.acquiringArms _ _ = as
  generalize State.shutBay _ _ _ = u
  induction as generalizing u with
  | nil => exact .refl u
  | cons a as ih =>
    have hq : Carries u (State.endQuietly b u a) :=
      (endAtArm_carries u a .stopped).trans ((Still.refl _).prompt _ _).claimsCache
    exact hq.trans (ih _)

theorem event_endLoading (b : BayId) (s : State) : Event s (s.endLoading b) := by
  have h1 := stopVisit_carries b s
  refine ⟨?_, noFinish_heldGrants _ _⟩
  unfold State.endLoading
  dsimp only
  split
  · exact h1.trans ((Still.refl _).setBayState _ _).claimsCache
  · exact h1.trans ((Still.refl _).closeOrder _ _).claimsCache

theorem event_endVisit (b : BayId) (s : State) : Event s (s.endVisit b) := by
  have h := Still.refl s
  unfold State.endVisit
  split
  · exact .of_still h .nil
  · exact .of_still h .nil
  · exact .of_still (h.endReferral _ _ _) .nil
  · exact .of_still (h.closeOrder _ _) .nil
  · exact event_endLoading b s
  · exact event_endLoading b s
  · exact event_endLoading b s
  · exact .of_still (h.prompt _ _) .nil

theorem event_closeVisit (b : BayId) (s : State) : Event s (s.closeVisit b) := by
  have h1 := ((Still.refl s).modBay b fun x => { x with closePending := true }).claimsCache.trans (stopVisit_carries b _)
  refine ⟨?_, noFinish_heldGrants _ _⟩
  unfold State.closeVisit
  dsimp only
  split
  · exact h1.trans ((Still.refl _).setBayState _ _).claimsCache
  · exact h1.trans ((Still.refl _).letGo _ _).claimsCache

theorem event_closeBay (b : BayId) (s : State) : Event s (s.closeBay b) := by
  have h := Still.refl s
  unfold State.closeBay
  split
  · exact .of_still h .nil
  · exact .of_still (h.setBayState _ _) .nil
  · exact .of_still (h.endReferral _ _ _) .nil
  · exact event_closeVisit b s
  · exact event_closeVisit b s
  · exact event_closeVisit b s
  · exact event_closeVisit b s
  · exact .of_still (by dsimp only; exact h.modBay b _) .nil

theorem event_onBay {n : Nat} {b : List Byte} {f : BayId → State × Answer × List Job} (hf : ∀ x, Event s ((f x).1, (f x).2.2)) :
    Event s ((onBay n b s f).1, (onBay n b s f).2.2) := by
  unfold onBay
  split
  · exact .of_still (.refl s) .nil
  · split
    · exact .of_still (.refl s) .nil
    · exact hf _

theorem event_bayOpen (b : List Byte) (s : State) : Event s ((bayOpen b s).1, (bayOpen b s).2.2) :=
  event_onBay fun x => .of_still (by
    unfold State.openBay
    dsimp only
    split
    · exact (Still.refl s).setBayState _ _
    · exact (Still.refl s).modBay _ _
    all_goals exact .refl s) .nil

theorem event_bayClose (b : List Byte) (s : State) : Event s ((bayClose b s).1, (bayClose b s).2.2) :=
  event_onBay fun x => event_closeBay x s

theorem event_bayGet (b : List Byte) (s : State) : Event s ((bayGet b s).1, (bayGet b s).2.2) :=
  event_onBay fun _ => .of_still (.refl s) .nil

theorem event_setHoldFlags (b : BayId) (flags : BitVec 8) (s : State) : Event s (s.setHoldFlags b flags) :=
  .after ((Still.refl s).modBay _ _) (event_permissionChange b _ _)

theorem event_holdSet (b : List Byte) (s : State) : Event s ((holdSet b s).1, (holdSet b s).2.2) :=
  event_onBay fun x => event_setHoldFlags x _ s

theorem event_holdClear (b : List Byte) (s : State) : Event s ((holdClear b s).1, (holdClear b s).2.2) :=
  event_onBay fun x => event_setHoldFlags x _ s

theorem still_grantReferral (b : BayId) (no : Nat) (s : State) : Still s (s.grantReferral b no).1 := by
  have h := Still.refl s
  unfold State.grantReferral
  split
  · exact h
  · split
    · exact h
    · split
      · exact h.endReferral _ _ _
      · next t' ht => exact (h.dropReferral b).bindOrder ht

theorem event_authGrant (b : List Byte) (s : State) : Event s ((authGrant b s).1, (authGrant b s).2.2) :=
  event_onBay fun x => by
    split
    · exact .of_still (.refl s) .nil
    · exact .of_still (still_grantReferral x _ s) .nil

theorem event_authDeny (b : List Byte) (s : State) : Event s ((authDeny b s).1, (authDeny b s).2.2) :=
  event_onBay fun x => by
    split
    · exact .of_still (.refl s) .nil
    · exact .of_still ((Still.refl s).endReferral _ _ _) .nil

theorem event_orderEnd (b : List Byte) (s : State) : Event s ((orderEnd b s).1, (orderEnd b s).2.2) := by
  unfold orderEnd
  split
  · exact .of_still (.refl s) .nil
  · split
    · exact .of_still (.refl s) .nil
    · split
      · exact .of_still (.refl s) .nil
      · exact .of_still (.refl s) .nil
      · exact event_endVisit _ s

/-! ## Injectors -/

theorem event_injectorSet (b : List Byte) (s : State) : Event s ((injectorSet b s).1, (injectorSet b s).2.2) := by
  unfold injectorSet
  split
  · exact .of_still (.refl s) .nil
  · split
    · exact .of_still (.refl s) .nil
    · split
      · exact .of_still (.refl s) .nil
      · split
        · exact .of_still (.refl s) .nil
        · refine .of_still (((Still.refl s).modInjector _ _).setInjectorState _ _) ?_
          dsimp only
          split <;> simp [NoFinish]

theorem event_injectorClear (b : List Byte) (s : State) : Event s ((injectorClear b s).1, (injectorClear b s).2.2) := by
  unfold injectorClear
  split
  · exact .of_still (.refl s) .nil
  · split
    · exact .of_still (.refl s) .nil
    · split
      · exact .of_still (.refl s) .nil
      · split
        · exact .of_still (.refl s) .nil
        · exact .of_still (((Still.refl s).modInjector _ _).setInjectorState _ _) (by simp [NoFinish])

end Sys2Proof.Machine.Arming
end

section
/-! The profile requests and what a wait for a profile brings: PROFILE DROP removes an entry or lets it drop, PROFILE LOAD writes one and
satisfies the oldest matching want (R105, R108, R109, R112, R113, R114). -/

namespace Sys2Proof.Machine.Arming

variable {s t : State}

/-! ## Entries by tag -/

/-- The entry found by a tag and a dropping flag has both (R103). -/
theorem tagged_some {c : Cache} {meter base span : Nat} {d : Bool} {e : EntryId} (h : c.tagged meter base span d = some e) :
    ∃ x, c.entries[e] = some x ∧ (x.meter = meter ∧ x.base = base ∧ x.span = span) ∧ x.dropping = d := by
  have := List.find?_some h
  simpa [Option.any_eq_true, Entry.hasTag, and_assoc] using this

theorem mem_allEntries (e : EntryId) : e ∈ allEntries := List.mem_finRange e

theorem tagged_none {c : Cache} {meter base span : Nat} {d : Bool} (h : c.tagged meter base span d = none) {e : EntryId} {x : Entry}
    (hx : c.entries[e] = some x) (hm : x.meter = meter) (hb : x.base = base) (hs : x.span = span) : x.dropping ≠ d := by
  have := List.find?_eq_none.1 h e (mem_allEntries e)
  simpa [hx, Entry.hasTag, hm, hb, hs] using this

/-! ## Dropping (R114) -/

/-- An unpinned entry removed. -/
theorem dropEntry_carries {e : EntryId} {x : Entry} (hx : s.entry e = some x) (hp : x.pinCount = 0) :
    Carries s (s.dropEntry e) where
  claims hs := claimsKept_of_arms rfl hs
  cache hs := by
    rw [cacheKept_iff] at hs ⊢
    change PinsKept (s.setEntry e none).entry (s.cache.recency.filter (· != e)) s.cache.wants (held s) (wanting s)
    rw [entry_setEntry]
    exact hs.drop (hs.not_held hx hp) fun _ _ _ => Iff.rfl

/-- A pinned entry starts to drop. -/
theorem modEntry_dropping_carries {e : EntryId} {x : Entry} (hx : s.entry e = some x) (hp : x.pinCount ≠ 0) :
    Carries s (s.modEntry e fun x => { x with dropping := true }) where
  claims hs := claimsKept_of_arms rfl hs
  cache hs := by
    rw [cacheKept_iff] at hs ⊢
    change PinsKept (s.modEntry e _).entry s.cache.recency s.cache.wants (held s) (wanting s)
    rw [entry_modEntry, hx]
    have := (hs.pins e x hx).1
    exact hs.setDropping hx (by omega)

theorem profileDrop_carries (b : List Byte) (s : State) : Carries s (profileDrop b s).1 := by
  unfold profileDrop onTag
  split
  · exact .refl s
  · split
    · exact .refl s
    · dsimp only
      split
      · next e he =>
        obtain ⟨x, hx, -, -⟩ := tagged_some he
        have hx' : s.entry e = some x := hx
        split
        · next hp => exact dropEntry_carries hx' (by simpa [hx'] using hp)
        · next hp => exact modEntry_dropping_carries hx' (by simpa [hx'] using hp)
      · split <;> exact .refl s

/-! ## Loading (R112, R113) -/

theorem writeEntry_carries {e : EntryId} {y : Entry} (hd : y.dropping = false)
    (htag : ∀ f z, s.entry f = some z → z.meter = y.meter → z.base = y.base → z.span = y.span → z.dropping = false → f = e)
    (hpin : y.pinCount = ((s.entry e).map (·.pinCount)).getD 0)
    (hmeter : ∀ x, s.entry e = some x → x.pinCount = 1 → x.meter = y.meter) : Carries s (s.writeEntry e y) where
  claims hs := claimsKept_of_arms rfl hs
  cache hs := by
    rw [cacheKept_iff] at hs ⊢
    change PinsKept (s.setEntry e (some y)).entry (e :: s.cache.recency.filter (· != e)) s.cache.wants (held s) (wanting s)
    rw [entry_setEntry]
    exact hs.write hd htag hpin hmeter

/-- The oldest matching want satisfied: its segment holds the entry and wants no more (R61, R112). -/
theorem satisfyWant_carries (e : EntryId) (s : State) : Carries s (s.satisfyWant e).1 := by
  unfold State.satisfyWant
  split
  · exact .refl s
  · next w hw =>
    have hmem := List.mem_of_find?_eq_some hw
    have hmatch := List.find?_some hw
    simp only [Option.any_eq_true] at hmatch
    obtain ⟨x, hx, hmatch⟩ := hmatch
    have harms : ((s.pin w.arm e).removeWant w.arm).arms = (s.pin w.arm e).arms := (removeWant_frame _ _).1
    refine ⟨fun hs => claimsKept_modSeg w.arm (fun _ => rfl) (claimsKept_of_arms harms (pin_claims hs _ _)), fun hs => ?_⟩
    rw [cacheKept_iff] at hs ⊢
    obtain ⟨hmeter, hheld, hwant⟩ := hs.wanted w hmem
    obtain ⟨g, hg, -⟩ := (Option.any_eq_true _ _).1 hwant
    dsimp only
    have hpin : (s.pin w.arm e).seg? w.arm = some { g with entry := some e, calSerial := (s.entry e).map (·.calSerial) } := by
      rw [State.pin, seg?_modSeg_self, State.modEntry_seg?, hg]; rfl
    rw [held_modSeg, wanting_modSeg, seg?_of_arms harms, held_of_arms harms, wanting_of_arms harms, hpin]
    have hentry : (((s.pin w.arm e).removeWant w.arm).modSeg w.arm
        fun g => { g with wantTimer := none, phase := .awaitInjector }).entry
          = Function.update s.entry e (some { x with pinCount := 1 }) := by
      calc _ = (s.pin w.arm e).entry := entry_of_entries (removeWant_frame _ _).2.2.1
        _ = (s.modEntry e fun x => { x with pinCount := 1 }).entry := rfl
        _ = _ := by rw [entry_modEntry, hx]; rfl
    have hheld' : held (s.pin w.arm e) = Function.update (held s) w.arm (some e) := by
      rw [State.pin, held_modSeg, State.modEntry_seg?, hg]; rfl
    have hwanting : wanting (s.pin w.arm e) = wanting s := by
      rw [State.pin, wanting_modSeg]
      exact Function.update_eq_self w.arm (wanting s)
    have hrec : (((s.pin w.arm e).removeWant w.arm).modSeg w.arm
        fun g => { g with wantTimer := none, phase := .awaitInjector }).cache.recency = s.cache.recency :=
      (removeWant_frame _ _).2.2.2
    have hwants : (((s.pin w.arm e).removeWant w.arm).modSeg w.arm
        fun g => { g with wantTimer := none, phase := .awaitInjector }).cache.wants = s.cache.wants.filter fun v => v.arm != w.arm :=
      removeWant_wants _ _
    rw [hentry, hrec, hwants, hheld', hwanting, Function.update_idem]
    have hm : x.meter = w.arm.val := by
      simp only [Entry.matchesProduct, Bool.and_eq_true, beq_iff_eq] at hmatch
      exact hmatch.1.trans hmeter
    exact (hs.unwant w.arm).pin hx hm hheld (Function.update_self ..)

theorem placement_cases {c : Cache} {meter base span : Nat} {r : Placement} (h : c.placement meter base span = r) :
    (∃ e, r = .inPlace e ∧ c.tagged meter base span false = some e)
      ∨ c.tagged meter base span false = none
        ∧ ((∃ e, r = .freeSlot e ∧ allEntries.find? (fun e => c.entries[e].isNone) = some e)
          ∨ (∃ e, r = .evicted e ∧ allEntries.find? (fun e => c.entries[e].isNone) = none ∧ c.victim = some e)
          ∨ r = .pinned ∧ allEntries.find? (fun e => c.entries[e].isNone) = none ∧ c.victim = none) := by
  subst h
  unfold Cache.placement
  split
  · next e he => exact .inl ⟨e, rfl, he⟩
  · next hno =>
    refine .inr ⟨hno, ?_⟩
    split
    · next e he => exact .inl ⟨e, rfl, he⟩
    · next hfull =>
      refine .inr ?_
      split
      · next e he => exact .inl ⟨e, rfl, hfull, he⟩
      · next hv => exact .inr ⟨rfl, hfull, hv⟩

/-- A victim is unpinned (R112). -/
theorem victim_unpinned {c : Cache} {e : EntryId} (h : c.victim = some e) : ∃ x, c.entries[e] = some x ∧ x.pinCount = 0 := by
  obtain ⟨pr, -, hfind⟩ := List.exists_of_findSome?_eq_some h
  have := List.find?_some hfind
  simp only [Option.any_eq_true, Bool.and_eq_true, beq_iff_eq] at this
  obtain ⟨x, hx, hp, -⟩ := this
  exact ⟨x, hx, hp⟩

theorem keepsHold_reload (n : Nat) : KeepsHold (Segment.reload n) := fun _ => ⟨rfl, rfl, rfl⟩

theorem loadProfile_carries (p : ProfileBody) (s : State) : Carries s (loadProfile p s).1 := by
  have hfresh (hno : s.cache.tagged p.meter p.base p.span false = none) (e : EntryId) (hfree : ∀ x, s.entry e = some x → x.pinCount = 0) :
      Carries s (s.writeEntry e (p.entry 0)) := by
    refine writeEntry_carries rfl (fun f z hz hm hb hs hd => absurd hd (tagged_none hno hz hm hb hs)) ?_ fun x hx hone => ?_
    · cases hx : s.entry e with
      | none => rfl
      | some x => exact (hfree x hx).symm
    · rw [hfree x hx] at hone
      cases hone
  unfold loadProfile
  split
  · next e he =>
    rcases placement_cases he with ⟨f, hf, htag⟩ | ⟨-, ⟨f, hf, -⟩ | ⟨f, hf, -⟩ | ⟨hf, -⟩⟩ <;> cases hf
    obtain ⟨x, hx, ⟨hm, hb, hs⟩, hd⟩ := tagged_some htag
    have hx' : s.entry e = some x := hx
    have hkept : CacheKept s → Carries s (s.writeEntry e (p.entry (((s.entry e).map (·.pinCount)).getD 0))) := fun hkept =>
      writeEntry_carries rfl (fun f z hz hm' hb' hs' hd' => ((cacheKept_iff s).1 hkept).tags f e z x hz hx' (hm'.trans hm.symm)
        (hb'.trans hb.symm) (hs'.trans hs.symm) hd' hd) rfl fun y hy _ => by
          rw [hx'] at hy
          cases hy
          exact hm
    have hrest : ∀ u, Carries u (((s.pinners e).foldl (fun t a => t.modSeg a (Segment.reload p.calSerial)) u).satisfyWant e).1 :=
      fun u => ((Still.refl u).foldl_modSeg _ (keepsHold_reload _)).claimsCache.trans (satisfyWant_carries e _)
    exact ⟨fun hs => (hrest _).claims (claimsKept_of_arms rfl hs), fun hs => (hrest _).cache ((hkept hs).cache hs)⟩
  · next e he =>
    rcases placement_cases he with ⟨f, hf, -⟩ | ⟨hno, ⟨f, hf, hfree⟩ | ⟨f, hf, -⟩ | ⟨hf, -⟩⟩ <;> cases hf
    have hnone : s.entry e = none := by simpa [State.entry] using List.find?_some hfree
    exact (hfresh hno e fun x hx => by rw [hnone] at hx; cases hx).trans (satisfyWant_carries e _)
  · next e he =>
    rcases placement_cases he with ⟨f, hf, -⟩ | ⟨hno, ⟨f, hf, -⟩ | ⟨f, hf, -, hv⟩ | ⟨hf, -⟩⟩ <;> cases hf
    obtain ⟨x, hx, hp⟩ := victim_unpinned hv
    exact (hfresh hno e fun y hy => by rw [State.entry, hx] at hy; cases hy; exact hp).trans (satisfyWant_carries e _)
  · exact .refl s

theorem event_profileLoadJobs (b : List Byte) (s : State) : Event s ((profileLoadJobs b s).1, (profileLoadJobs b s).2.2) := by
  refine ⟨?_, fun a cause hj => ?_⟩
  · unfold profileLoadJobs profileLoad
    dsimp only
    split
    · exact .refl s
    · split
      · exact .refl s
      · exact loadProfile_carries _ s
  · unfold profileLoadJobs at hj
    simp at hj

end Sys2Proof.Machine.Arming
end

section
/-! Every command carries the arms' claims and the profile cache over, and so does the passing of a millisecond (R53, R54, R103,
R105, R106, R108, R109, R114). -/

namespace Sys2Proof.Machine.Arming

variable {s t : State}

/-! ## Requests and the inbound queue -/

theorem event_plain {r : State × Answer} (h : Still s r.1) : Event s ((plain r).1, (plain r).2.2) := .of_still h .nil

theorem event_owner (kind : Byte) (b : List Byte) (s : State) : Event s ((owner kind b s).1, (owner kind b s).2.2) := by
  unfold owner
  split
  · exact event_plain (still_permitPut b s)
  · exact event_plain (still_permitGet b s)
  · exact event_plain (still_permitSuspend b s)
  · exact event_plain (still_permitResume b s)
  · exact event_plain (still_permitUnlock b s)
  · exact event_plain (still_permitRetire b s)
  · exact event_plain (still_walk b s)
  · exact event_plain (still_orderPost b s)
  · exact event_plain (still_orderGet b s)
  · exact event_plain (still_orderCancel b s)
  · exact event_orderEnd b s
  · exact event_bayOpen b s
  · exact event_bayClose b s
  · exact event_bayGet b s
  · exact event_holdSet b s
  · exact event_holdClear b s
  · exact event_authGrant b s
  · exact event_authDeny b s
  · exact event_plain (still_referralList b s)
  · exact event_plain (still_armSet b s)
  · exact event_armGet b s
  · exact event_armStart b s
  · exact event_armStop b s
  · exact event_armClear b s
  · exact event_profileLoadJobs b s
  · exact event_plain (still_profileRead b s)
  · exact ⟨profileDrop_carries b s, .nil⟩
  · exact event_plain (still_profileList b s)
  · exact event_plain (still_wantList b s)
  · exact event_plain (still_recipePut b s)
  · exact event_plain (still_recipeGet b s)
  · exact event_plain (still_recipeRetire b s)
  · exact event_plain (still_recipeList b s)
  · exact event_injectorSet b s
  · exact event_plain (still_injectorShot b s)
  · exact event_injectorClear b s
  · exact event_plain (still_injectorGet b s)
  · exact event_plain (still_queueList b s)
  · exact event_plain (still_notePeek b s)
  · exact event_plain (still_noteTake b s)
  · exact event_plain (still_noteList b s)
  · exact event_plain (still_serialSet b s)
  · exact event_plain (still_clockSet b s)
  · exact event_plain (still_clockGet b s)
  · exact event_plain (still_attentionRead b s)
  · exact event_plain (still_attentionEdges b s)
  · exact event_plain (still_modeSet b s)
  · exact event_plain (still_sealSet b s)
  · exact event_plain (still_settingsGet b s)
  · exact event_plain (still_linkGet b s)
  · exact event_plain (still_restart b s)
  · exact .of_still (.refl s) .nil

/-- A part of the state that neither invariant speaks of. -/
theorem Carries.of_same (ha : t.arms = s.arms) (hc : t.cache = s.cache) (hq : t.dosing.queues = s.dosing.queues) : Carries s t :=
  (Still.of_same ha hc hq).claimsCache

/-- The link changes. -/
theorem carries_link (s : State) (k : Link) : Carries s { s with link := k } := .of_same rfl rfl rfl

theorem takeFrame_carries (f : Frame) (s : State) : Carries s (s.takeFrame f) :=
  (event_owner f.kind f.body s).settled.trans (.of_same rfl rfl rfl)

theorem drain_carries (n : Nat) (s : State) : Carries s (drain n s) := by
  induction n generalizing s with
  | zero => exact .refl s
  | succ n ih =>
    unfold drain
    split
    · exact .refl s
    · next f rest _ =>
      split
      · exact ((carries_link s _).trans (takeFrame_carries f _)).trans (ih _)
      · exact .refl s

theorem drained_carries (s : State) : Carries s s.drained := drain_carries _ s

theorem offer_carries (f : Frame) (s : State) : Carries s (s.offer f) := by
  unfold State.offer
  split
  · exact (carries_link s _).trans (drained_carries _)
  · split <;> exact .of_same rfl rfl rfl

/-! ## The receiver -/

theorem complete_carries (len : Byte) (got : List Byte) (s : State) : Carries s (s.complete len got) := by
  unfold State.complete
  dsimp only
  split
  · exact (carries_link s _).trans (offer_carries _ _)
  · exact .of_same rfl rfl rfl

theorem takeByte_carries (x : Byte) (s : State) : Carries s (s.takeByte x) := by
  unfold State.takeByte
  split
  · split <;> exact .of_same rfl rfl rfl
  · split <;> exact .of_same rfl rfl rfl
  · split
    · exact complete_carries _ _ s
    · exact .of_same rfl rfl rfl

theorem lineError_carries (s : State) : Carries s s.lineError := by
  unfold State.lineError
  split <;> exact .of_same rfl rfl rfl

theorem responseSent_carries {s t : State} (h : execResponseSent s = .next t) (hrestart : ∀ u : State, Carries u (u.warmRestart .restartRequest)) :
    Carries s t := by
  have hsent : ∀ rest r, Carries s (State.emit r { s with link := { s.link with outbound := rest } }) := fun _ _ => .of_same rfl rfl rfl
  unfold execResponseSent at h
  cases h
  split
  · exact .refl s
  · dsimp only
    split
    · exact (hsent _ _).trans ((hrestart _).trans (drained_carries _))
    · exact (hsent _ _).trans (drained_carries _)

/-! ## The warm restart (R50, R80, R183) -/

/-- The end of another arm's segment gives an arm none. -/
theorem endAtArm_seg?_none {a c : ArmId} (hc : c ≠ a) (cause : EndCause) (h : s.seg? c = none) : (s.endAtArm a cause).seg? c = none := by
  have hsteps : (s.endSteps a cause).arm c = s.arm c := by
    cases hg : s.seg? a with
    | none => rw [endSteps_of_none hg]
    | some g =>
      rw [endSteps_of_seg hg, (releasePin_arm _ a _).1 c hc]
      simp only [State.arm, stepsToPin_arms]
      exact State.modArm_arm_ne s hc _
  have hclaims := (((Still.refl (s.endSteps a cause)).releaseClaims a).arms c).2
  have hnone : holding ((s.endSteps a cause).arm c) = none := by
    rw [hsteps, holding]
    exact congrArg _ h
  rw [State.endAtArm, State.seg?, (finishEnd_frame _ a cause).1 c hc]
  rw [hnone, holding, Option.map_eq_none_iff] at hclaims
  exact hclaims

theorem restartArm_carries (s : State) (a : ArmId) : Carries s (s.restartArm a) := by
  unfold State.restartArm
  split
  · exact endAtArm_carries s a .restart
  · next h => exact ((Still.refl s).releaseArm (by simp [State.seg?, Arm.seg?, h])).claimsCache
  · exact .refl s
  · exact .refl s

/-- The restart leaves an arm no segment, and gives no arm one. -/
theorem restartArm_seg? (s : State) (a : ArmId) :
    (s.restartArm a).seg? a = none ∧ ∀ c, s.seg? c = none → (s.restartArm a).seg? c = none := by
  suffices hself : (s.restartArm a).seg? a = none by
    refine ⟨hself, fun c hc => ?_⟩
    by_cases hca : c = a
    · rw [hca]; exact hself
    · unfold State.restartArm
      split
      · exact endAtArm_seg?_none hca .restart hc
      · rw [State.seg?, releaseArm_arm_ne hca]; exact hc
      · exact hc
      · exact hc
  unfold State.restartArm
  split
  · exact endAtArm_seg? s a .restart
  · rw [State.seg?, releaseArm_arm_self]; rfl
  · next h => simp [State.seg?, Arm.seg?, h]
  · next h => simp [State.seg?, Arm.seg?, h]

theorem foldl_restartArm (as : List ArmId) (s : State) :
    Carries s (as.foldl State.restartArm s)
      ∧ ∀ c, c ∈ as ∨ s.seg? c = none → (as.foldl State.restartArm s).seg? c = none := by
  induction as generalizing s with
  | nil => exact ⟨.refl s, fun c hc => hc.resolve_left (by simp)⟩
  | cons a as ih =>
    obtain ⟨hcar, hseg⟩ := ih (s.restartArm a)
    refine ⟨(restartArm_carries s a).trans hcar, fun c hc => hseg c ?_⟩
    by_cases hca : c = a
    · exact .inr (hca ▸ (restartArm_seg? s a).1)
    · rcases hc with hc | hc
      · exact .inl ((List.mem_cons.1 hc).resolve_left hca)
      · exact .inr ((restartArm_seg? s a).2 c hc)

theorem still_restartBay (s : State) (b : BayId) : Still s (s.restartBay b) := by
  have h := Still.refl s
  unfold State.restartBay
  refine Still.modBay ?_ b _
  split
  · exact h
  · exact h
  · exact h.endReferral _ _ _
  all_goals exact h.letGo _ _

theorem foldl_restartBay (bs : List BayId) (s : State) : Still s (bs.foldl State.restartBay s) := by
  induction bs generalizing s with
  | nil => exact .refl s
  | cons b bs ih => exact (still_restartBay s b).trans (ih _)

/-- No segment wants anything after the restart, and no want stands. -/
theorem PinsKept.noWants {entry : EntryId → Option Entry} {recency : List EntryId} {wants : List Want}
    {held : ArmId → Option EntryId} {wanting : ArmId → Bool} (h : PinsKept entry recency wants held wanting)
    (hw : ∀ a, wanting a = false) : PinsKept entry recency [] held wanting :=
  { h with wantOnce := .nil, wanted := fun _ hw => absurd hw (by simp), wanters := fun a ha => by rw [hw a] at ha; cases ha }

theorem warmRestart_carries (cause : StartCause) (s : State) : Carries s (s.warmRestart cause) := by
  have h1 : Carries s { s with att := s.att.restart } := .of_same rfl rfl rfl
  obtain ⟨h2, hseg⟩ := foldl_restartArm allArms { s with att := s.att.restart }
  have h3 := foldl_restartBay allBays (allArms.foldl State.restartArm { s with att := s.att.restart })
  have hnone : ∀ a, wanting (allBays.foldl State.restartBay (allArms.foldl State.restartArm { s with att := s.att.restart })) a = false := by
    intro a
    have ha := (h3.arms a).2
    have hgone := hseg a (.inl (List.mem_finRange a))
    rw [State.seg?] at hgone
    simp only [holding, hgone, Option.map_none, Option.map_eq_none_iff] at ha
    simp [wanting, State.seg?, ha]
  unfold State.warmRestart
  refine (h1.trans (h2.trans h3.claimsCache)).trans ?_
  dsimp only
  generalize allBays.foldl _ _ = u at hnone ⊢
  refine ⟨fun hs => claimsKept_of_arms (by simp) hs, fun hs => ?_⟩
  rw [cacheKept_iff] at hs ⊢
  have harms : ((u.setWants []).setReferrals []).arms = u.arms := by simp
  have hcache : ((u.setWants []).setReferrals []).cache = { u.cache with wants := [] } := by simp [State.setWants]
  rw [entry_of_entries (s := u) (by rw [hcache]), held_of_arms (s := u) (by simp), wanting_of_arms (s := u) (by simp)]
  simp only [hcache]
  exact hs.noWants hnone

/-- After power-on no arm has a claim or a segment, and no profile is valid (R79, R120). -/
theorem powerOn_kept (pins : PowerOnPins) : ClaimsKept (State.powerOn pins) ∧ CacheKept (State.powerOn pins) := by
  have harm : ∀ a, (State.powerOn pins).arm a = Arm.powerOn a := fun a => by simp [State.arm, State.powerOn]
  have hseg : ∀ a, (State.powerOn pins).seg? a = none := fun a => by rw [State.seg?, harm]; rfl
  have hentry : ∀ e, (State.powerOn pins).entry e = none := fun e => by simp [State.entry, State.powerOn]
  have hcache : (State.powerOn pins).cache = ⟨Vector.replicate 12 none, [], []⟩ := rfl
  refine ⟨fun a => by rw [harm]; rfl, ?_⟩
  simp only [CacheKept, hseg, hentry, hcache]
  simp

/-! ## Metering -/

/-- The period's accumulation leaves the segment's bay, entry and want timer (R92). -/
theorem still_meterPeriod {a : ArmId} {g : Segment} (hg : s.seg? a = some g) (l : Line) (e : Entry) :
    Still s (s.meterPeriod a g l e) := by
  have hstatus : (s.arm a).status = .segment g := by
    rw [State.seg?, Arm.seg?] at hg
    split at hg <;> simp_all
  unfold State.meterPeriod
  dsimp only
  have h1 := (Still.refl s).modArm a (f := fun x => { x with
      status := .segment { g.accumulate e (s.arm a) (g.period1 e (s.arm a) s.settings.tref) l.basis with periodTimer := some Config.periodMs }
      counterA := 0, counterB := 0 }) (by
    constructor
    · intro h
      rw [Arm.claimKept, hstatus] at h
      exact h
    · simp [holding, Arm.seg?, hstatus, Segment.accumulate])
  split
  · exact h1.handAll _ _
  · exact h1

theorem keepsHold_flowTests (e : Entry) (basis : Basis) (limit : Nat) : KeepsHold fun g => g.flowTests e basis limit := by
  intro g
  dsimp only
  unfold Segment.flowTests Segment.phaseTest
  split
  · exact ⟨rfl, rfl, rfl⟩
  · split
    · exact ⟨rfl, rfl, rfl⟩
    · split
      · exact ⟨rfl, rfl, rfl⟩
      · split <;> exact ⟨rfl, rfl, rfl⟩

theorem event_periodExpiry (a : ArmId) (s : State) : Event s (s.periodExpiry a) := by
  unfold State.periodExpiry
  split
  · exact .of_still (.refl s) .nil
  · next g hg =>
    split
    · exact .of_still (.refl s) .nil
    · split
      · next l e _ _ =>
        have h1 := still_meterPeriod hg l e
        dsimp only
        split
        · exact .of_still (h1.modSeg a (keepsHold_flowTests e _ _)) .nil
        · refine .of_still (h1.modSeg a (by exact fun _ => ⟨rfl, rfl, rfl⟩)) ?_
          split <;> simp [NoFinish]
      · exact .of_still (.refl s) .nil

theorem periodWith_carries (a : ArmId) (o : PeriodOutcome) (s : State) : Carries s (s.periodWith a o) := by
  unfold State.periodWith
  split
  · exact (event_periodExpiry a s).settled
  · exact .refl s

theorem still_pulse (a : ArmId) (c : Channel) (s : State) : Still s (s.modArm a (Arm.pulse c)) := by
  refine (Still.refl s).modArm a ?_
  unfold Arm.pulse
  split
  · cases c <;> exact ⟨id, rfl⟩
  · exact .refl _

theorem event_waits (a : ArmId) (cause : EndCause) (p : Bool) (s : State) : Event s (s, if p then [.endSegment a cause] else []) :=
  .of_still (.refl s) (by split <;> simp [NoFinish])

/-! ## Injectors -/

theorem faultEntry_jobs (j : InjId) (s : State) : NoFinish (s.faultEntry j).2 := by
  unfold State.faultEntry
  dsimp only
  split
  · unfold State.faultSegment
    split
    · exact .nil
    · dsimp only
      repeat' split
      all_goals simp [NoFinish]
  · exact .nil

theorem stray_jobs (j : InjId) (s : State) : NoFinish (s.stray j).2 := by
  unfold State.stray
  dsimp only
  split
  · exact faultEntry_jobs j _
  · exact .nil

theorem event_confirmEdge (j : InjId) (s : State) : Event s (s.confirmEdge j) := by
  refine .of_still ((Still.refl s).confirmEdge j) ?_
  unfold State.confirmEdge
  dsimp only
  repeat' split
  all_goals first
    | exact stray_jobs j _
    | simp [NoFinish]

theorem event_confirmExpiry (j : InjId) (s : State) : Event s (s.confirmExpiry j) := by
  refine .of_still ((Still.refl s).confirmExpiry j) ?_
  unfold State.confirmExpiry
  dsimp only
  repeat' split
  all_goals first
    | exact faultEntry_jobs j _
    | simp [NoFinish]

/-! ## The CAL input and the panel -/

theorem event_assertCal (s : State) : Event s s.assertCal := by
  unfold State.assertCal
  split
  · exact .of_still (.refl s) .nil
  · exact .of_still (((Still.refl s).setCal true).foldl_modSeg _ (keepsHold_shutFlowing _)) (noFinish_groupEnds _ _ _)

theorem still_touch (b : BayId) (s : State) : Still s (s.touch b) := by
  unfold State.touch
  split
  · exact (Still.refl s).modBay _ _
  · exact .refl s

theorem still_cardFrame (b : BayId) (card : Nat) (s : State) : Still s (s.cardFrame b card) := by
  have h := Still.refl s
  unfold State.cardFrame
  split
  · exact h.prompt _ _
  · split
    · exact h.prompt _ _
    · split
      · unfold State.cardStandalone
        split
        · exact h.prompt _ _
        · split
          · exact h.prompt _ _
          · next hb => exact h.bindOrder hb
      · exact (((h.setReferrals _).modBay _ _).setBayState _ _).prompt _ _

theorem event_startFrame (b : BayId) (a : ArmId) (c : Nat) (s : State) : Event s (s.startFrame b a c) := by
  unfold State.startFrame
  split
  · exact .of_still ((Still.refl s).prompt _ _) .nil
  · have h := event_offerStart ⟨b, a, c, .panel⟩ s
    dsimp only
    split
    · exact h
    · exact ⟨h.carries.trans ((Still.refl _).prompt _ _).claimsCache, .nil⟩

theorem event_stopFrame (b : BayId) (a : ArmId) (s : State) : Event s (s.stopFrame b a) := by
  unfold State.stopFrame
  split
  · exact event_stopSegment a .stopped s
  · split
    · next h => exact .of_still (still_cancelWait (seg?_of_waitsFor h)) .nil
    · exact .of_still ((Still.refl s).prompt _ _) .nil

theorem still_referralExpiry (b : BayId) (s : State) : Still s (s.referralExpiry b) := by
  unfold State.referralExpiry
  split
  · exact (Still.refl s).endReferral _ _ _
  · exact .refl s

theorem still_cardIdleExpiry (b : BayId) (s : State) : Still s (s.cardIdleExpiry b) := by
  unfold State.cardIdleExpiry
  split
  · split
    · exact (Still.refl s).closeOrder _ _
    · exact (Still.refl s).revertOrder _
  · exact .refl s

theorem still_holdWindowExpiry (b : BayId) (s : State) : Still s (s.holdWindowExpiry b) := by
  unfold State.holdWindowExpiry
  split
  · exact (((Still.refl s).modBay _ _).releaseWaiting b).prompt _ _
  · exact .refl s

theorem still_minuteExpiry (s : State) : Still s s.minuteExpiry := by
  unfold State.minuteExpiry
  split <;> exact still_setClock _ _ s

/-! ## One step -/

theorem carries_of_next {r t : State} (h : (Host.Outcome.next r : Host.Outcome State Fault Refusal) = .next t) (hr : Carries s r) :
    Carries s t := by
  cases h; exact hr

theorem exec_carries (i : Instr) (s t : State) (h : exec i s = .next t) : Carries s t := by
  cases i
  case powerOnReset pins =>
    refine carries_of_next (s := s) h ?_
    exact Carries.trans (t := State.powerOn pins) ⟨fun _ => (powerOn_kept pins).1, fun _ => (powerOn_kept pins).2⟩ (.of_same rfl rfl rfl)
  case restartInput => exact carries_of_next h (warmRestart_carries _ s)
  case receiveByte x e =>
    refine carries_of_next h ?_
    split
    · exact lineError_carries s
    · exact takeByte_carries x s
  case gapTimerExpiry =>
    refine carries_of_next h ?_
    split
    · exact .of_same rfl rfl rfl
    · exact .refl s
  case responseSent => exact responseSent_carries h (warmRestart_carries _)
  case malformedPanelFrame => exact carries_of_next h (.refl s)
  case card b c =>
    refine carries_of_next h ?_
    split
    · exact ((still_touch b s).trans (still_cardFrame b c _)).claimsCache
    · exact .refl s
  case start b a c =>
    refine carries_of_next h ?_
    split
    · exact .refl s
    · split
      · exact (Event.after (still_touch b s) (event_startFrame b _ c _)).settled
      · exact .refl s
  case stop b a =>
    refine carries_of_next h ?_
    split
    · exact .refl s
    · exact (Event.after (still_touch b s) (event_stopFrame b _ _)).settled
  case endVisit b => exact carries_of_next h (Event.after (still_touch b s) (event_endVisit b _)).settled
  case permissiveChange b i v => exact carries_of_next h (event_permissive b i v s).settled
  case meterPulse a c => exact carries_of_next h (still_pulse a c s).claimsCache
  case sampleFrame a v ok =>
    refine carries_of_next h ?_
    split
    · exact ((Still.refl s).modArm a (by exact ⟨id, rfl⟩)).claimsCache
    · exact .refl s
  case freshnessTimerExpiry a => exact carries_of_next h ((Still.refl s).modArm a (by exact ⟨id, rfl⟩)).claimsCache
  case confirmEdge j => exact carries_of_next h (event_confirmEdge j s).settled
  case confirmTimerExpiry j => exact carries_of_next h (event_confirmExpiry j s).settled
  case injectorFault j cause =>
    refine carries_of_next h ?_
    split
    · split
      · exact (event_confirmExpiry j s).settled
      · exact .refl s
    · split
      · exact (event_confirmEdge j s).settled
      · exact .refl s
  case calAssertion => exact carries_of_next h (event_assertCal s).settled
  case calRelease => exact carries_of_next h ((Still.refl s).setCal false).claimsCache
  case minuteTimerExpiry => exact carries_of_next h (still_minuteExpiry s).claimsCache
  case referralTimerExpiry b => exact carries_of_next h (still_referralExpiry b s).claimsCache
  case cardIdleTimerExpiry b => exact carries_of_next h (still_cardIdleExpiry b s).claimsCache
  case holdWindowExpiry b => exact carries_of_next h (still_holdWindowExpiry b s).claimsCache
  case wantTimerExpiry a => exact carries_of_next h (event_waits a _ _ s).settled
  case injectorWaitTimerExpiry a => exact carries_of_next h (event_waits a _ _ s).settled
  case meteringPeriodExpiry a => exact carries_of_next h (event_periodExpiry a s).settled
  case flowEnd a => exact carries_of_next h (periodWith_carries a _ s)
  case leak a => exact carries_of_next h (periodWith_carries a _ s)
  case noFlow a => exact carries_of_next h (periodWith_carries a _ s)
  case tempFault a => exact carries_of_next h (periodWith_carries a _ s)
  case meterFault a => exact carries_of_next h (periodWith_carries a _ s)
  all_goals exact carries_of_next h (offer_carries _ s)

theorem keepsHold_later : KeepsHold Segment.later := fun g => by simp [Segment.later, later]

theorem calm_tick (s : State) : Still s s.tick where
  cache := rfl
  arms a := by
    have : s.tick.arm a = (s.arm a).later := by simp [State.arm, State.tick]
    rw [this]
    exact GoesOn.trans (y := { s.arm a with freshness := later (s.arm a).freshness }) ⟨id, rfl⟩ (.modSeg _ keepsHold_later)
  queues _ := id

/-- A step is a command on the state with the queue's rest, or a millisecond. -/
theorem step_carries (s t : State) (h : step s = .next t) : Carries s t := by
  unfold step at h
  split at h
  · exact carries_of_next h (calm_tick s).claimsCache
  · refine Carries.trans ?_ (exec_carries _ _ t h)
    exact .of_same rfl rfl rfl

/-- Settles O56: every command and every millisecond carries the claims and the cache over. -/
theorem stepKeepsClaims : Obligations.StepKeepsClaims := by
  unfold Obligations.StepKeepsClaims
  exact ⟨fun s t hs h => (step_carries s t h).claims hs, fun s t hs h => (step_carries s t h).cache hs⟩

end Sys2Proof.Machine.Arming
end

section
/-! Facts about frames, arms and marks that the statements about arms, injectors and loads share. -/

namespace Sys2Proof.Machine.Arming

variable {s t u : State}

/-! ## Frames -/

theorem same_refl (ps : List Part) (s : State) : SameExcept ps s s := by simp [SameExcept]

/-- Two changes reach the parts that either reaches. -/
theorem same_trans {ps qs rs : List Part} (h : SameExcept ps s t) (h' : SameExcept qs t u) (hp : ps ⊆ rs) (hq : qs ⊆ rs) :
    SameExcept rs s u := by
  have hstep : ∀ {α : Type} {x : Part} {p q r : α}, x ∈ ps ∨ q = p → x ∈ qs ∨ r = q → x ∈ rs ∨ r = p := by
    intro α x p q r h1 h2
    rcases h1 with h1 | h1
    · exact .inl (hp h1)
    · rcases h2 with h2 | h2
      · exact .inl (hq h2)
      · exact .inr (h2.trans h1)
  obtain ⟨h1, h2, h3, h4, h5, h6, h7, h8, h9, h10, h11, h12, h13, h14⟩ := h
  obtain ⟨k1, k2, k3, k4, k5, k6, k7, k8, k9, k10, k11, k12, k13, k14⟩ := h'
  exact ⟨hstep h1 k1, hstep h2 k2, hstep h3 k3, hstep h4 k4, hstep h5 k5, hstep h6 k6, hstep h7 k7, hstep h8 k8, hstep h9 k9,
    hstep h10 k10, hstep h11 k11, hstep h12 k12, hstep h13 k13, hstep h14 k14⟩

theorem same_mono {ps rs : List Part} (h : SameExcept ps s t) (hp : ps ⊆ rs) : SameExcept rs s t :=
  same_trans h (same_refl [] t) hp (by simp)

theorem sameExcept_modArm (s : State) (a : ArmId) (f : Arm → Arm) : SameExcept [.arms] s (s.modArm a f) := by simp [SameExcept]

theorem sameExcept_modSeg (s : State) (a : ArmId) (f : Segment → Segment) : SameExcept [.arms] s (s.modSeg a f) :=
  sameExcept_modArm s a _

theorem sameExcept_levelChange (s : State) (src : Source) (sel : Edge) (old new : Bool) :
    SameExcept [.att] s (s.levelChange src sel old new) := by simp [SameExcept]

/-! ## Segments of arms -/

theorem status_of_seg? {a : ArmId} {g : Segment} (h : s.seg? a = some g) : (s.arm a).status = .segment g := by
  cases hx : (s.arm a).status <;> simp_all [State.seg?, Arm.seg?]

theorem modSeg_of_none {x : Arm} (h : x.seg? = none) (f : Segment → Segment) : x.modSeg f = x := by
  cases hx : x.status <;> simp_all [Arm.seg?, Arm.modSeg]

theorem modSeg_of_status {x : Arm} {g : Segment} (h : x.status = .segment g) (f : Segment → Segment) :
    x.modSeg f = { x with status := .segment (f g) } := by simp [Arm.modSeg, h]

theorem armModSeg_modSeg (x : Arm) (f f' : Segment → Segment) : (x.modSeg f).modSeg f' = x.modSeg fun g => f' (f g) := by
  cases hx : x.status <;> simp [Arm.modSeg, hx]

theorem modSeg_arm_self (s : State) (a : ArmId) (f : Segment → Segment) : (s.modSeg a f).arm a = (s.arm a).modSeg f :=
  s.modArm_arm_self a _

theorem modSeg_arm_ne {a c : ArmId} (h : c ≠ a) (s : State) (f : Segment → Segment) : (s.modSeg a f).arm c = s.arm c :=
  s.modArm_arm_ne h _

/-- An arm's segment replaced. -/
theorem modSeg_arm_of_seg? {a : ArmId} {g : Segment} (h : s.seg? a = some g) (f : Segment → Segment) :
    (s.modSeg a f).arm a = { s.arm a with status := .segment (f g) } := by
  rw [modSeg_arm_self, modSeg_of_status (status_of_seg? h)]

/-- The segments of several arms updated once each. -/
theorem foldl_modSeg_arm (f : Segment → Segment) (as : List ArmId) (h : as.Nodup) (s : State) (c : ArmId) :
    (as.foldl (fun t a => t.modSeg a f) s).arm c = if c ∈ as then (s.arm c).modSeg f else s.arm c := by
  induction as generalizing s with
  | nil => simp
  | cons a as ih =>
    obtain ⟨ha, has⟩ := List.nodup_cons.1 h
    rw [List.foldl_cons, ih has]
    by_cases hc : c = a
    · subst hc; simp [ha, modSeg_arm_self]
    · simp [hc, modSeg_arm_ne hc]

theorem sameExcept_foldl_modSeg (f : Segment → Segment) (as : List ArmId) (s : State) :
    SameExcept [.arms] s (as.foldl (fun t a => t.modSeg a f) s) := by
  induction as generalizing s with
  | nil => exact same_refl _ s
  | cons a as ih => exact same_trans (sameExcept_modSeg s a f) (ih _) (by simp) (by simp)

/-! ## Edge selections -/

theorem asksOnset_iff (e : Edge) : e.asksOnset = decide (e ≠ .clearance) := by cases e <;> rfl

theorem asksClearance_iff (e : Edge) : e.asksClearance = decide (e ≠ .onset) := by cases e <;> rfl

/-! ## The CAL input (R175, R176, R178) -/

theorem shutFlowing_eq (cause : EndCause) (g : Segment) : g.shutFlowing cause =
    if g.phase = .lowStart ∨ g.phase = .high ∨ g.phase = .lowStop then
      { g with phase := .closing, endCause := some cause, closeRecorded := true, closeCounter := 0, zeroRun := 0 }
    else g := by
  unfold Segment.shutFlowing Segment.closeCommand
  cases g.phase <;> rfl

/-- No segment in acquisition has an end in an event. -/
theorem groupEnds_nil (s : State) (cause : EndCause) : s.groupEnds [] cause = [] := by
  simp [State.groupEnds, State.heldGrants, State.heldInjectors]

/-- Without a segment in acquisition CAL's assertion closes the flowing segments and ends none. -/
theorem settle_assertCal (hcal : s.settings.cal = false)
    (hflow : ∀ a g, s.seg? a = some g → g.phase ≠ .awaitProfile ∧ g.phase ≠ .awaitInjector) :
    settle s.assertCal = s.segmentArms.foldl (fun t a => t.modSeg a (Segment.shutFlowing .calSeal)) (s.setCal true) := by
  have hnodup : s.segmentArms.Nodup := (List.nodup_finRange 24).filter _
  unfold State.assertCal
  rw [if_neg (by simp [hcal])]
  have hnone : (s.segmentArms.foldl (fun t a => t.modSeg a (Segment.shutFlowing .calSeal)) (s.setCal true)).allAcquiring = [] := by
    rw [State.allAcquiring, List.filter_eq_nil_iff]
    intro a _
    rw [foldl_modSeg _ _ hnodup]
    cases hg : s.seg? a with
    | none => simp [hg]
    | some g =>
      obtain ⟨h1, h2⟩ := hflow a g hg
      simp only [State.setCal_seg?, hg, Option.map_some]
      split
      · unfold Segment.shutFlowing Segment.closeCommand
        cases hp : g.phase <;> simp_all [Phase.flowing, Phase.acquiring]
      · cases hp : g.phase <;> simp_all [Phase.acquiring]
  dsimp only
  rw [hnone, groupEnds_nil, settle_nil]

/-- Settles O52. -/
theorem calInput : Obligations.CalInput := by
  unfold Obligations.CalInput
  intro s
  refine ⟨fun hcal => ?_, fun hcal hflow => ⟨_, rfl, ?_⟩, fun hcal => ?_, fun hcal => ?_⟩
  · simp only [exec, execCalAssertion, State.assertCal, hcal, if_true, settle_nil]
  · rw [settle_assertCal hcal hflow]
    have hframe := sameExcept_foldl_modSeg (Segment.shutFlowing .calSeal) s.segmentArms (s.setCal true)
    have hset : SameExcept [.settings, .att] s (s.setCal true) := by simp [SameExcept]
    have hall := same_trans hset hframe (rs := [.settings, .arms, .att]) (by simp) (by simp)
    obtain ⟨-, -, -, -, -, -, -, -, -, hatt, hsettings, -⟩ := hframe
    refine ⟨(hsettings.resolve_left (by simp)).trans ?_, hall, fun hsel => ?_, fun a => ?_⟩
    · simp [State.setCal, State.levelChange]
      split <;> rfl
    · rw [hatt.resolve_left (by simp), State.setCal, levelChange_att]
      simp [hcal, asksOnset_iff, hsel, Attention.put]
    · have hnodup : s.segmentArms.Nodup := (List.nodup_finRange 24).filter _
      rw [foldl_modSeg_arm _ _ hnodup, State.setCal_arm]
      have hshut : Segment.shutFlowing .calSeal = fun g => if g.phase = .lowStart ∨ g.phase = .high ∨ g.phase = .lowStop then
          { g with phase := .closing, endCause := some .calSeal, closeRecorded := true, closeCounter := 0, zeroRun := 0 } else g :=
        funext (shutFlowing_eq .calSeal)
      rw [← hshut]
      by_cases ha : a ∈ s.segmentArms
      · rw [if_pos ha]
      · rw [if_neg ha, modSeg_of_none]
        have : (s.seg? a).isSome = false := by simpa [State.segmentArms, allArms] using ha
        simpa [State.seg?] using this
  · simp only [exec, execCalRelease, State.setCal, State.levelChange, hcal]
    simp
    rw [← hcal]
  · simp only [exec, execCalRelease, State.setCal, State.levelChange, hcal, asksClearance_iff]
    by_cases hsel : s.att.edges.cal = .onset
    · simp [hsel]
    · simp [hsel, State.mark, Attention.put]

end Sys2Proof.Machine.Arming
end

section
/-! The tests of a flowing segment at its period expiry, on the totals the period leaves (R66, R67, R68). -/

namespace Sys2Proof.Machine.Arming

variable {s t : State}

/-! ## What the pacing leaves of the segment -/

/-- A segment that pacing and faults have reached: claims and cap alone may differ (R95, R140). -/
def Paced (g h : Segment) : Prop := ∃ cs cap, h = { g with claims := cs, cap := cap }

theorem Paced.refl (g : Segment) : Paced g g := ⟨g.claims, g.cap, rfl⟩

theorem Paced.claims {g h : Segment} (hp : Paced g h) (cs : List Claim) : Paced g { h with claims := cs } := by
  obtain ⟨_, cap, rfl⟩ := hp
  exact ⟨cs, cap, rfl⟩

theorem Paced.cap {g h : Segment} (hp : Paced g h) (cap : Bool) : Paced g { h with cap := cap } := by
  obtain ⟨cs, _, rfl⟩ := hp
  exact ⟨cs, cap, rfl⟩

theorem settleInjector_arms (s : State) (j : InjId) : (s.settleInjector j).arms = s.arms := by
  unfold State.settleInjector
  split
  · dsimp only
    split <;> rfl
  · rfl

theorem handOver_seg? (s : State) (a : ArmId) (gv : Nat) (c : Claim) : (s.handOver a gv c).seg? a = (s.seg? a).map fun g =>
    { g with claims := g.claims.map fun d =>
        if d.index == c.index then { d with pacedMl := satAdd Config.top32 d.pacedMl gv } else d } := by
  unfold State.handOver
  rw [seg?_of_arms (settleInjector_arms _ _), State.modInjector_seg?, seg?_modSeg_self]

theorem handAll_seg? {a : ArmId} {g : Segment} (hg : s.seg? a = some g) (gv : Nat) :
    ∃ h, (s.handAll a gv).seg? a = some h ∧ Paced g h := by
  unfold State.handAll
  rw [hg]
  dsimp only
  split
  · exact ⟨g, hg, .refl g⟩
  · have hfold : ∀ (cs : List Claim) (u : State) (h : Segment), u.seg? a = some h → Paced g h →
        ∃ h', (cs.foldl (fun t c => t.handOver a gv c) u).seg? a = some h' ∧ Paced g h' := by
      intro cs
      induction cs with
      | nil => exact fun u h hu hp => ⟨h, hu, hp⟩
      | cons c cs ih =>
        intro u h hu hp
        exact ih _ _ (by rw [handOver_seg?, hu]; rfl) (hp.claims _)
    obtain ⟨h, hh, hp⟩ := hfold g.claims s g hg (.refl g)
    exact ⟨_, by rw [State.evalCap, seg?_modSeg_self, hh]; rfl, hp.cap _⟩

/-! ## The period expiry of a flowing segment -/

/-- A segment with the totals of the period that ends, its period timer started again (R66, R84..R94). -/
def metered (s : State) (a : ArmId) (g : Segment) (l : Line) (e : Entry) : Segment :=
  { g.accumulate e (s.arm a) (g.period1 e (s.arm a) s.settings.tref) l.basis with periodTimer := some Config.periodMs }

theorem meterPeriod_seg? {a : ArmId} {g : Segment} (l : Line) (e : Entry) :
    ∃ h, (s.meterPeriod a g l e).seg? a = some h ∧ Paced (metered s a g l e) h := by
  unfold State.meterPeriod
  have hmod : (s.modArm a fun x => { x with status := .segment (metered s a g l e), counterA := 0, counterB := 0 }).seg? a
      = some (metered s a g l e) := by simp [State.seg?, Arm.seg?]
  dsimp only
  split
  · exact handAll_seg? hmod _
  · exact ⟨_, hmod, .refl _⟩

theorem flowing_iff (p : Phase) : p.flowing = true ↔ p = .lowStart ∨ p = .high ∨ p = .lowStop := by cases p <;> simp [Phase.flowing]

/-- A flowing segment's period expiry: its segment after the tests, and nothing follows. -/
theorem periodExpiry_flowing {a : ArmId} {g : Segment} {l : Line} {e : Entry} (hg : s.seg? a = some g) (ht : g.periodTimer ≠ none)
    (hf : g.phase.flowing = true) (hl : s.segLine? g = some l) (he : s.segEntry? g = some e) :
    ∃ t h, s.periodExpiry a = (t, []) ∧ Paced (metered s a g l e) h
      ∧ t.seg? a = some (h.flowTests e l.basis s.settings.fidelityLimit) := by
  obtain ⟨h, hh, hp⟩ := meterPeriod_seg? (s := s) (a := a) (g := g) l e
  refine ⟨(s.meterPeriod a g l e).modSeg a fun x => x.flowTests e l.basis s.settings.fidelityLimit, h, ?_, hp, by simp [hh]⟩
  unfold State.periodExpiry
  simp [hg, ht, hl, he, hf]

/-- The row that names a cause is the expiry that brings it about. -/
theorem periodWith_closes {a : ArmId} {g g' : Segment} {cause : EndCause} (hg : s.seg? a = some g) (hf : g.phase.flowing = true)
    (hexp : s.periodExpiry a = (t, [])) (hseg : t.seg? a = some g') (hcause : g'.endCause = some cause) :
    s.periodWith a (.closes cause) = t := by
  have hout : s.periodOutcome a = .closes cause := by simp [State.periodOutcome, hexp, hg, hseg, hcause, hf]
  rw [State.periodWith, if_pos hout, hexp, settle_nil]

/-! ## The tests (R67, R68) -/

/-- The first fault test that holds, of three in order. -/
theorem faultTest_eq (g : Segment) (limit : Nat) : g.faultTest limit =
    if limit < g.fidelityCount ∨ g.presetMl + 1000000 < g.gross then some .meterFault
    else if 121 ≤ g.holdAge then some .tempFault else if 40 ≤ g.zeroRun then some .noFlow else none := by
  unfold Segment.faultTest
  by_cases h1 : limit < g.fidelityCount
  · rw [if_pos h1, if_pos (.inl h1)]
  · by_cases h2 : g.presetMl + Config.runawayMl < g.gross
    · rw [if_neg h1, if_pos h2, if_pos (.inr h2)]
    · rw [if_neg h1, if_neg h2]
      exact (if_neg (not_or.2 ⟨h1, h2⟩)).symm

theorem flowTests_of_fault {g : Segment} {limit : Nat} {cause : EndCause} (h : g.faultTest limit = some cause) (e : Entry)
    (basis : Basis) : g.flowTests e basis limit = g.closeCommand .closing cause := by simp [Segment.flowTests, h]

theorem flowTests_of_sound {g : Segment} {limit : Nat} (h : g.faultTest limit = none) (e : Entry) (basis : Basis) :
    g.flowTests e basis limit = g.phaseTest e basis := by simp [Segment.flowTests, h]

/-- The tests leave the totals. -/
theorem flowTests_totals (g : Segment) (e : Entry) (basis : Basis) (limit : Nat) :
    (g.flowTests e basis limit).gross = g.gross ∧ (g.flowTests e basis limit).net = g.net := by
  unfold Segment.flowTests Segment.phaseTest
  split
  · exact ⟨rfl, rfl⟩
  · split_ifs <;> exact ⟨rfl, rfl⟩

/-! ## The totals of a period -/

theorem fidelity_eq (nA nB count : Nat) : fidelity nA nB count =
    if nA ≤ nB + 1 ∧ nB ≤ nA + 1 then count else count + (nA - nB) + (nB - nA) := by
  unfold fidelity
  dsimp only
  split_ifs <;> omega

/-- The temperature hold at its limit: no fresh sample in range, and the age reached (R67, R89). -/
theorem holdAge_metered (s : State) (a : ArmId) (g : Segment) (l : Line) (e : Entry) :
    121 ≤ (metered s a g l e).holdAge ↔
      ¬ ((s.arm a).freshness ≠ none ∧ ∃ v, (s.arm a).sample = some v ∧ -5000 ≤ v ∧ v ≤ 8000)
        ∧ (g.lastTemp = none ∧ 121 ≤ g.holdAge ∨ g.lastTemp ≠ none ∧ 120 ≤ g.holdAge) := by
  have hfresh : (s.arm a).validSample.isSome = true
      ↔ (s.arm a).freshness ≠ none ∧ ∃ v, (s.arm a).sample = some v ∧ -5000 ≤ v ∧ v ≤ 8000 := by
    unfold Arm.validSample
    cases (s.arm a).sample <;> cases (s.arm a).freshness <;> simp
  rw [← hfresh]
  simp only [metered, Segment.accumulate]
  cases (s.arm a).validSample <;> cases g.lastTemp <;> simp

/-- Settles O34, on the segment that the period leaves before its tests. -/
theorem flowingTests : Obligations.FlowingTests := by
  unfold Obligations.FlowingTests
  intro s a g l e hg ht hphase hcause hl he x iv gv gross fidelity' fresh run meterFails cold sound
  have hf : g.phase.flowing = true := (flowing_iff g.phase).2 hphase
  obtain ⟨t, h, hexp, ⟨cs, cap, rfl⟩, hseg⟩ := periodExpiry_flowing hg ht hf hl he
  have hgross : (metered s a g l e).gross = gross := rfl
  have hfid : (metered s a g l e).fidelityCount = fidelity' := fidelity_eq _ _ _
  have hrun : (metered s a g l e).zeroRun = run := rfl
  have hcold : 121 ≤ (metered s a g l e).holdAge ↔ cold := holdAge_metered s a g l e
  generalize hm : ({ metered s a g l e with claims := cs, cap := cap } : Segment) = m at hseg
  have hfault : m.faultTest s.settings.fidelityLimit =
      if meterFails then some .meterFault else if cold then some .tempFault else if 40 ≤ run then some .noFlow else none := by
    rw [faultTest_eq, ← hm]
    simp only [hgross, hfid, hrun, hcold]
    rfl
  obtain ⟨htot, hnet⟩ := flowTests_totals m e l.basis s.settings.fidelityLimit
  have hmphase : m.phase = g.phase := by rw [← hm]; rfl
  have hmcause : m.endCause = none := by rw [← hm]; exact hcause
  have hmrun : m.zeroRun = run := by rw [← hm]; rfl
  have hmgross : m.gross = gross := by rw [← hm]; rfl
  have hmpreset : m.presetMl = g.presetMl := by rw [← hm]; rfl
  have hrow : ∀ cause, m.faultTest s.settings.fidelityLimit = some cause → s.periodWith a (.closes cause) = t := fun cause hc =>
    periodWith_closes hg hf hexp hseg (by rw [flowTests_of_fault hc]; rfl)
  have hremaining : g.presetMl - (m.flowTests e l.basis s.settings.fidelityLimit).delivered l.basis = m.remaining l.basis := by
    unfold Segment.remaining Segment.delivered
    rw [hmpreset, htot, hnet]
  refine ⟨t, _, ?_, hseg, htot.trans hmgross, ?_⟩
  · simp only [exec, execMeteringPeriodExpiry, hexp, settle_nil]
  dsimp only
  rw [hremaining]
  have hsound : sound → m.flowTests e l.basis s.settings.fidelityLimit = m.phaseTest e l.basis := fun ⟨h1, h2, h3⟩ =>
    flowTests_of_sound (by rw [hfault, if_neg h1, if_neg h2, if_neg (by omega)]) e l.basis
  refine ⟨fun hmf => ?_, fun hmf hc => ?_, fun hmf hc hr => ?_, fun hs hr => ?_, fun hs hr hr' => ?_, fun hs hr hr' hp hlow => ?_,
    fun hs hr hr' hp => ?_⟩
  · have hc := hfault.trans (if_pos hmf)
    rw [flowTests_of_fault hc]
    exact ⟨⟨rfl, rfl, rfl, rfl, rfl⟩, congrArg Host.Outcome.next (hrow _ hc)⟩
  · have hc := hfault.trans ((if_neg hmf).trans (if_pos hc))
    rw [flowTests_of_fault hc]
    exact ⟨⟨rfl, rfl, rfl, rfl, rfl⟩, congrArg Host.Outcome.next (hrow _ hc)⟩
  · have hc := hfault.trans ((if_neg hmf).trans ((if_neg hc).trans (if_pos hr)))
    rw [flowTests_of_fault hc]
    exact ⟨⟨rfl, rfl, rfl, rfl, rfl⟩, congrArg Host.Outcome.next (hrow _ hc)⟩
  · rw [hsound hs, Segment.phaseTest, if_pos hr]
    exact ⟨rfl, rfl, rfl, rfl, rfl⟩
  · rw [hsound hs, Segment.phaseTest, if_neg (by omega)]
    by_cases hp : g.phase = .lowStart ∨ g.phase = .high
    · rw [if_pos ⟨hr', hmphase ▸ hp⟩]
      exact ⟨rfl, hmcause⟩
    · obtain ⟨h1, h2⟩ := not_or.1 hp
      rw [if_neg fun h => hp (hmphase ▸ h.2), if_neg fun h => h1 (hmphase ▸ h.1)]
      exact ⟨hmphase.trans ((hphase.resolve_left h1).resolve_left h2), hmcause⟩
  · rw [hsound hs, Segment.phaseTest, if_neg (by omega), if_neg (by omega), hmphase, hmgross, if_pos ⟨hp, hlow⟩]
    exact ⟨rfl, hmcause⟩
  · rw [hsound hs, Segment.phaseTest, if_neg (by omega), if_neg (by omega), hmphase, hmgross, if_neg]
    · exact ⟨hmphase, hmcause, hmrun⟩
    · rintro ⟨h1, h2⟩
      exact hp.elim (fun hp => hp h1) (fun hp => by omega)

end Sys2Proof.Machine.Arming
end

section
/-! The end of an uncounted segment at a LOADING bay, in the event that brings it: the settled line and permit, the pin, the wants and
the queues, the claims released to nobody, the arm, and the bay with the STOPPED prompt (R16, R27, R41, R74, R75, R108, R109, R132,
R141). -/

namespace Sys2Proof.Machine.Arming

variable {s t u : State}

/-! ## Marks -/

theorem put_edges (t : Attention) (src : Source) (v : Bool) :
    (t.put src v).edges = t.edges ∧ (t.put src v).occurrences = t.occurrences := by cases src <;> exact ⟨rfl, rfl⟩

theorem put_marked_self (t : Attention) (src : Source) (v : Bool) : (t.put src v).marked src = v := by
  cases src <;> simp [Attention.put, Attention.marked]

theorem put_marked_ne {src src' : Source} (h : src' ≠ src) (t : Attention) (v : Bool) : (t.put src v).marked src' = t.marked src' := by
  cases src <;> cases src' <;>
    first
    | rfl
    | exact absurd rfl h
    | exact Vector.getElem_set_ne (Fin.isLt _) (Fin.isLt _) fun hv => h (congrArg _ (Fin.ext hv.symm))

/-- A change of level marks its own source alone. -/
theorem levelChange_marked_ne {src src' : Source} (h : src' ≠ src) (s : State) (sel : Edge) (old new : Bool) :
    (s.levelChange src sel old new).att.marked src' = s.att.marked src' := by
  rw [levelChange_att]
  split
  · exact put_marked_ne h s.att true
  · rfl

/-- A change of level marks its source as its selection asks, and nothing else of the attention unit changes (R168). -/
theorem levelChange_marks (s : State) (src : Source) (sel : Edge) (old new : Bool) :
    (s.levelChange src sel old new).att.marked src = markAfter sel old new (s.att.marked src)
      ∧ (s.levelChange src sel old new).att.edges = s.att.edges
      ∧ (s.levelChange src sel old new).att.occurrences = s.att.occurrences := by
  rw [levelChange_att, asksOnset_iff, asksClearance_iff, markAfter, Bool.or_assoc]
  split
  · next h =>
    refine ⟨?_, put_edges _ _ _⟩
    rw [put_marked_self, h, Bool.or_true]
  · next h =>
    rw [Bool.not_eq_true] at h
    refine ⟨?_, rfl, rfl⟩
    rw [h, Bool.or_false]

theorem setWants_marked (s : State) (ws : List Want) : WantMarked s (s.setWants ws) := by
  have h := (levelChange_marks { s with cache := { s.cache with wants := ws } } .want s.att.edges.want (!s.cache.wants.isEmpty)
    (!ws.isEmpty)).1
  have hc : (s.setWants ws).cache.wants = ws := by simp [State.setWants]
  rw [WantMarked, hc]
  rw [show (s.setWants ws).att.wantMark = (s.setWants ws).att.marked .want from rfl, State.setWants, h]
  cases s.cache.wants <;> cases ws <;> rfl

/-- The want list's level and mark stay. -/
theorem wantMarked_of_same (hm : t.att.wantMark = s.att.wantMark) (hw : t.cache.wants = s.cache.wants) : WantMarked s t := by
  rw [WantMarked, hm, hw, markAfter]
  cases s.cache.wants != [] <;> simp

theorem removeWant_marked (s : State) (a : ArmId) : WantMarked s (s.removeWant a) := by
  unfold State.removeWant
  split
  · exact setWants_marked s _
  · exact wantMarked_of_same rfl rfl

theorem removeWant_same (s : State) (a : ArmId) : SameExcept [.cache, .att] s (s.removeWant a) := by
  unfold State.removeWant
  split <;> simp [SameExcept]

/-! ## The releases of claims (R141) -/

theorem modInjector_congr {s : State} {j : InjId} {f f' : Injector → Injector} (h : f (s.injector j) = f' (s.injector j)) :
    s.modInjector j f = s.modInjector j f' := by
  unfold State.modInjector
  rw [show f s.dosing.injectors[j] = f' s.dosing.injectors[j] from h]

theorem modInjector_modInjector (s : State) (j : InjId) (f f' : Injector → Injector) :
    (s.modInjector j f).modInjector j f' = s.modInjector j fun x => f' (f x) := by simp [State.modInjector]

theorem modInjector_eq_self {s : State} {j : InjId} {f : Injector → Injector} (h : f (s.injector j) = s.injector j) :
    s.modInjector j f = s := by
  unfold State.modInjector
  rw [show f s.dosing.injectors[j] = s.dosing.injectors[j.val] from h, Vector.set_getElem_self]

/-- A change of injector state between unfaulted ones marks nothing (R168). -/
theorem setInjectorState_quiet {j : InjId} {st : InjectorState} (h : (s.injector j).state.level = st.level) :
    s.setInjectorState j st = s.modInjector j fun x => { x with state := st } := by
  unfold State.setInjectorState State.levelChange
  rw [h]
  cases st.level <;> rfl

/-- The release of an injector reaches its record alone. -/
theorem releaseInjector_eq (s : State) (j : InjId) : s.releaseInjector j = s.modInjector j claimReleased := by
  unfold State.releaseInjector
  dsimp only
  split
  · next h =>
    rw [setInjectorState_quiet (by rw [State.modInjector_injector_self, h]; split <;> rfl), modInjector_modInjector]
    exact modInjector_congr (by simp [claimReleased, h])
  · next h => exact modInjector_congr (by simp [claimReleased, h])
  all_goals
    next h => exact (modInjector_eq_self (by simp [claimReleased, h])).symm

theorem claimReleased_idem (x : Injector) : claimReleased (claimReleased x) = claimReleased x := by
  unfold claimReleased
  cases h : x.state <;> simp [h]
  cases x.firing <;> simp

theorem claimReleased_reach (x : Injector) : (claimReleased x).reach = x.reach ∧ (claimReleased x).cls = x.cls := by
  unfold claimReleased
  split <;> exact ⟨rfl, rfl⟩

/-- The claims of an arm's segment released one after the other. -/
theorem foldl_releaseClaim (a : ArmId) (js : List InjId) (s : State) :
    (∀ i, (js.foldl (fun t j => t.releaseClaim a j) s).injector i =
        if i ∈ js then claimReleased (s.injector i) else s.injector i)
      ∧ (js.foldl (fun t j => t.releaseClaim a j) s).arm a = (s.arm a).modSeg (fun g =>
          { g with claims := g.claims.filter fun c => !js.contains c.injector })
      ∧ (∀ c, c ≠ a → (js.foldl (fun t j => t.releaseClaim a j) s).arm c = s.arm c)
      ∧ (js.foldl (fun t j => t.releaseClaim a j) s).dosing.queues = s.dosing.queues
      ∧ (js.foldl (fun t j => t.releaseClaim a j) s).dosing.recipes = s.dosing.recipes
      ∧ SameExcept [.arms, .dosing] s (js.foldl (fun t j => t.releaseClaim a j) s) := by
  induction js generalizing s with
  | nil =>
    refine ⟨fun i => by simp, ?_, fun _ _ => rfl, rfl, rfl, same_refl _ s⟩
    cases hx : (s.arm a).status with
    | segment g =>
      rw [modSeg_of_status hx]
      simp [← hx]
    | _ => simp [Arm.modSeg, hx]
  | cons j js ih =>
    have hone : s.releaseClaim a j = (s.modInjector j claimReleased).modSeg a fun g =>
        { g with claims := g.claims.filter fun c => c.injector != j } := by rw [State.releaseClaim, releaseInjector_eq]
    obtain ⟨hinj, harm, hother, hq, hr, hsame⟩ := ih (s.releaseClaim a j)
    rw [List.foldl_cons]
    refine ⟨fun i => ?_, ?_, fun c hc => (hother c hc).trans ?_, hq.trans ?_, hr.trans ?_, ?_⟩
    · rw [hinj, hone, State.modSeg_injector]
      by_cases hij : i = j
      · subst hij
        rw [State.modInjector_injector_self, claimReleased_idem]
        simp
      · rw [State.modInjector_injector_ne _ hij]
        simp [hij]
    · rw [harm, hone, modSeg_arm_self, State.modInjector_arm, armModSeg_modSeg]
      congr 1
      funext g
      simp only [List.filter_filter]
      congr 2
      funext c
      by_cases h : c.injector = j <;> simp [h]
    · rw [hone, modSeg_arm_ne hc]; rfl
    · rw [hone]; rfl
    · rw [hone]; rfl
    · rw [hone] at hsame ⊢
      exact same_trans (same_trans (by simp [SameExcept] : SameExcept [.dosing] s (s.modInjector j claimReleased))
        (sameExcept_modSeg _ a _) (rs := [.arms, .dosing]) (by simp) (by simp)) hsame (by simp) (by simp)

/-- No waiter is in the reach of a free injector: its grant changes nothing (R131). -/
theorem grant_none {j : InjId} (h : ∀ w ∈ s.dosing.queue (s.injector j).cls, w.arm ∉ (s.injector j).reach) : s.grant j = (s, []) := by
  unfold State.grant
  dsimp only
  split
  · rfl
  · have hnone : (s.dosing.queue (s.injector j).cls).find? (fun w => (s.injector j).reach.contains w.arm) = none := by
      rw [List.find?_eq_none]
      intro w hw
      simpa using h w hw
    rw [hnone]

/-- The releases of an ending segment's claims, with grants that find nobody, taken one after the other. -/
theorem runJobs_releases (a : ArmId) (cs : List Claim) (js : List Job) (s : State)
    (hfree : ∀ k ∈ cs, ∀ w ∈ s.dosing.queue (s.injector k.injector).cls, w.arm ∉ (s.injector k.injector).reach) (n : Nat)
    (hn : 2 * cs.length ≤ n) :
    ∃ m, n ≤ m + 2 * cs.length ∧ runJobs n (cs.map (fun c => Job.releaseClaim a c.injector) ++ js) s
      = runJobs m js ((cs.map (·.injector)).foldl (fun t j => t.releaseClaim a j) s) := by
  induction cs generalizing s n with
  | nil => exact ⟨n, by simp, rfl⟩
  | cons c cs ih =>
    obtain ⟨n, rfl⟩ : ∃ n', n = n' + 2 := ⟨n - 2, by simp at hn; omega⟩
    have hone : s.releaseClaim a c.injector = (s.modInjector c.injector claimReleased).modSeg a fun g =>
        { g with claims := g.claims.filter fun d => d.injector != c.injector } := by rw [State.releaseClaim, releaseInjector_eq]
    have hsame : ∀ i, ((s.releaseClaim a c.injector).injector i).reach = (s.injector i).reach
        ∧ ((s.releaseClaim a c.injector).injector i).cls = (s.injector i).cls := fun i => by
      rw [hone, State.modSeg_injector]
      by_cases hi : i = c.injector
      · subst hi
        rw [State.modInjector_injector_self]
        exact claimReleased_reach _
      · rw [State.modInjector_injector_ne _ hi]
        exact ⟨rfl, rfl⟩
    have hq : ∀ n, (s.releaseClaim a c.injector).dosing.queue n = s.dosing.queue n := fun n => by rw [hone]; rfl
    have hfree' : ∀ k ∈ c :: cs, ∀ w ∈ (s.releaseClaim a c.injector).dosing.queue ((s.releaseClaim a c.injector).injector k.injector).cls,
        w.arm ∉ ((s.releaseClaim a c.injector).injector k.injector).reach := fun k hk w hw => by
      rw [hq, (hsame _).2] at hw
      rw [(hsame _).1]
      exact hfree k hk w hw
    have hgrant := grant_none (hfree' c (by simp))
    have hrest := ih (s.releaseClaim a c.injector) fun k hk => hfree' k (by simp [hk])
    rw [List.map_cons, List.cons_append, runJobs_cons]
    simp only [doJob]
    split
    · rw [List.singleton_append, runJobs_cons]
      simp only [doJob, hgrant, List.nil_append]
      obtain ⟨m, hm, hrun⟩ := hrest n (by simp at hn; omega)
      exact ⟨m, by simp; omega, by rw [hrun]; rfl⟩
    · rw [List.nil_append]
      obtain ⟨m, hm, hrun⟩ := hrest (n + 1) (by simp at hn; omega)
      exact ⟨m, by simp; omega, by rw [hrun]; rfl⟩

end Sys2Proof.Machine.Arming
end

section
/-! The end of an uncounted segment at a LOADING bay (continued): its steps at the arm, and its part at the bay. -/

namespace Sys2Proof.Machine.Arming

variable {s t u : State}

/-- An uncounted segment of the order bound at its LOADING bay, with its line and its permit. -/
structure Loads (a : ArmId) (g : Segment) (o : Order) (l : Line) (p : Permit) (s : State) : Prop where
  seg : s.seg? a = some g
  uncounted : g.counted = false
  net : g.net = 0
  claims : g.claims.length ≤ 4
  bound : (s.bay g.bay).boundOrder = some g.orderNo
  loading : (s.bay g.bay).state = .loading
  order : s.order? g.orderNo = some o
  line : o.line? g.compartment = some l
  permit : s.permit? o.card = some p
  used : p.used ≤ 9999999

/-- A cause that releases the arm and learns nothing (R72, R53). -/
def Releases (cause : EndCause) : Prop := cause ≠ .closed ∧ cause ≠ .leak ∧ cause ≠ .hold

/-- A line after the end of an uncounted segment (R27). -/
def uncountedLine (x : Line) : Line := { x with state := if x.segmentsUsed = 0 then .opened else .part }

/-- A permit after the end of an uncounted segment (R16). -/
def uncountedCharge (reservation : Nat) (p : Permit) : Permit :=
  { p with reserved := p.reserved - reservation, used := min 9999999 p.used }

theorem order?_of_orders (h : t.orders = s.orders) : t.order? = s.order? := by funext n; simp only [State.order?, h]

theorem permit?_of_permits (h : t.permits = s.permits) : t.permit? = s.permit? := by funext n; simp only [State.permit?, h]

theorem injector_of_injectors (h : t.dosing.injectors = s.dosing.injectors) : t.injector = s.injector := by
  funext n; simp only [State.injector, h]

theorem bay_of_bays (h : t.bays = s.bays) : t.bay = s.bay := by funext n; simp only [State.bay, h]

/-! ## Steps 1 to 5 -/

theorem endWaits_same (s : State) (a : ArmId) : SameExcept [.arms, .cache, .dosing, .att] s (s.endWaits a) := by
  have h1 := removeWant_same s a
  have h2 : SameExcept [.dosing] (s.removeWant a) ((s.removeWant a).leaveQueues a) := by simp [SameExcept]
  exact same_trans (same_trans h1 h2 (rs := [.cache, .dosing, .att]) (by simp) (by simp)) (sameExcept_modSeg _ a _) (by simp) (by simp)

/-- Steps 1 to 4 of the end of an uncounted segment: the waits end, the line and the permit are settled. -/
theorem stepsToPin_uncounted {a : ArmId} {g : Segment} {o : Order} {l : Line} {p : Permit} (h : Loads a g o l p s) {cause : EndCause}
    (hc : cause ≠ .closed) : stepsToPin a g cause s =
      (((s.endWaits a).modSeg a fun x => { x with overrun := false }).modLine g.orderNo g.compartment uncountedLine).modPermit o.card
        (uncountedCharge g.reservation) := by
  have hover : endOverrun s g = false := by simp [endOverrun, Segment.overran, h.uncounted]
  have hlearn : (s.endWaits a).learn g cause = s.endWaits a := by
    unfold State.learn
    split
    · exact absurd rfl hc
    · rfl
  obtain ⟨-, horders, -⟩ := endWaits_same s a
  have horder : ((s.endWaits a).modSeg a fun x => { x with overrun := false }).order? g.orderNo = some o := by
    rw [State.modSeg_order?, order?_of_orders (horders.resolve_left (by simp)), h.order]
  unfold stepsToPin
  rw [hlearn, hover, State.settleRecords]
  dsimp only
  rw [horder]
  dsimp only
  rw [h.line]
  simp only [State.writeBack, h.uncounted, Bool.false_eq_true, if_false, takesStrike, Bool.false_and, h.net]
  rfl

theorem unpin_cache (s : State) (e : EntryId) :
    (∀ f, (s.unpin e).entry f = if f = e then (s.entry e).bind fun x => if x.dropping then none else some { x with pinCount := 0 }
        else s.entry f)
      ∧ (s.unpin e).cache.recency = s.cache.recency.filter fun f => !(f == e && (s.entry e).any (·.dropping)) := by
  cases hx : s.entry e with
  | none =>
    have : s.unpin e = s := by simp [State.unpin, hx]
    rw [this]
    refine ⟨fun f => ?_, by simp⟩
    split
    · next hf => rw [hf, hx]; rfl
    · rfl
  | some x =>
    obtain ⟨hentry, hrec⟩ := unpin_some hx
    refine ⟨fun f => ?_, ?_⟩
    · rw [hentry]
      by_cases hf : f = e
      · subst hf; simp
      · rw [Function.update_of_ne hf, if_neg hf]
    · rw [hrec]
      by_cases hd : x.dropping = true
      · rw [if_pos hd]
        exact List.filter_congr fun f _ => by simp [hd, bne]
      · rw [if_neg hd]
        simp [hd]

theorem unpin_same (s : State) (e : EntryId) : SameExcept [.cache] s (s.unpin e) := by
  unfold State.unpin
  split
  · exact same_refl _ s
  · split <;> simp [SameExcept, State.dropEntry, State.modEntry, State.setEntry]

/-- The release of a pin: the entry, the recency list, and nothing else but the arm (R108). -/
theorem releasePin_spec (s : State) (a : ArmId) (g : Segment) :
    (∀ e, (s.releasePin a g).entry e = if g.entry = some e then
        (s.entry e).bind fun x => if x.dropping then none else some { x with pinCount := 0 } else s.entry e)
      ∧ (s.releasePin a g).cache.recency
        = s.cache.recency.filter (fun e => !(g.entry == some e && (s.entry e).any (·.dropping)))
      ∧ (s.releasePin a g).cache.wants = s.cache.wants ∧ SameExcept [.arms, .cache] s (s.releasePin a g) := by
  cases hg : g.entry with
  | none =>
    rw [releasePin_none hg]
    exact ⟨fun e => by simp, by simp, rfl, same_refl _ s⟩
  | some f =>
    rw [releasePin_some hg]
    obtain ⟨hentry, hrec⟩ := unpin_cache s f
    refine ⟨fun e => ?_, ?_, (unpin_frame s f).2.2, same_trans (unpin_same s f) (sameExcept_modSeg _ a _) (by simp) (by simp)⟩
    · rw [State.modSeg_entry, hentry]
      by_cases he : e = f
      · subst he; simp
      · rw [if_neg he, if_neg fun h => he (Option.some.inj h).symm]
    · rw [State.modSeg_cache, hrec]
      refine List.filter_congr fun e _ => ?_
      by_cases he : e = f
      · subst he; simp
      · have h1 : (e == f) = false := by simpa using he
        have h2 : (some f == some e) = false := by simpa using Ne.symm he
        rw [h1, h2, Bool.false_and, Bool.false_and]

/-- An update of an order leaves the others. -/
theorem order?_modOrder_ne (s : State) {no n : Nat} (hn : n ≠ no) {f : Order → Order} (hf : ∀ o, (f o).orderNo = o.orderNo) :
    (s.modOrder no f).order? n = s.order? n := by
  have hkey : (fun o : Order => o.orderNo == n) ∘ (fun o => if o.orderNo == no then f o else o) = fun o => o.orderNo == n := by
    funext o
    simp only [Function.comp]
    split
    · rw [hf]
    · rfl
  simp only [State.order?, State.modOrder, List.find?_map, hkey]
  cases h : s.orders.find? fun o => o.orderNo == n with
  | none => rfl
  | some o =>
    have ho := List.find?_some h
    simp only [beq_iff_eq] at ho
    simp [ho, hn]

theorem permit?_modPermit_ne (s : State) {card n : Nat} (hn : n ≠ card) {f : Permit → Permit} (hf : ∀ p, (f p).card = p.card) :
    (s.modPermit card f).permit? n = s.permit? n := by
  have hkey : (fun p : Permit => p.card == n) ∘ (fun p => if p.card == card then f p else p) = fun p => p.card == n := by
    funext p
    simp only [Function.comp]
    split
    · rw [hf]
    · rfl
  simp only [State.permit?, State.modPermit, List.find?_map, hkey]
  cases h : s.permits.find? fun p => p.card == n with
  | none => rfl
  | some p =>
    have hp := List.find?_some h
    simp only [beq_iff_eq] at hp
    simp [hp, hn]

/-! ## The end at the arm -/

/-- The arm's part of the end of a segment that releases it (R51, R53, R81). -/
theorem finishEnd_released {a : ArmId} {g : Segment} (hg : s.seg? a = some g) {cause : EndCause} (hc : Releases cause) :
    s.finishEnd a cause = ((s.modArm a fun x => { x with lastEnd := some (g.lastEnd cause), counterA := 0, counterB := 0 }).occurEnded
      a).releaseArm a := by
  obtain ⟨-, h1, h2⟩ := hc
  unfold State.finishEnd
  rw [hg]
  cases cause <;> first | rfl | contradiction

/-- A change of arm state between unfaulted ones marks nothing (R168). -/
theorem setArmStatus_quiet {a : ArmId} {st : ArmStatus} (h : (s.arm a).status.level = st.level) :
    s.setArmStatus a st = s.modArm a fun x => { x with status := st } := by
  unfold State.setArmStatus State.levelChange
  rw [h]
  cases st.level <;> rfl

/-- An occurrence at an arm: its record, its mark, and nothing else of the attention unit (R169). -/
theorem armOccurrence_att (s : State) (a : ArmId) (f : Occurrences → Occurrences) :
    (s.armOccurrence a f).att.occurrences[a] = f s.att.occurrences[a] ∧ (s.armOccurrence a f).att.armMarks[a] = true
      ∧ (s.armOccurrence a f).att.wantMark = s.att.wantMark := by
  simp [State.armOccurrence, Attention.put]

/-- What that part leaves of the attention unit: ENDED and RELEASED at the arm, whose mark is set; the want list's mark as it was. -/
theorem finishEnd_att {a : ArmId} {g : Segment} (hg : s.seg? a = some g) {cause : EndCause} (hc : Releases cause) :
    (s.finishEnd a cause).att.occurrences[a].ended = true ∧ (s.finishEnd a cause).att.occurrences[a].released = true
      ∧ (s.finishEnd a cause).att.armMarks[a] = true ∧ (s.finishEnd a cause).att.wantMark = s.att.wantMark := by
  have hlevel : (s.arm a).status.level = ArmStatus.idle.level := by rw [status_of_seg? hg]; rfl
  rw [finishEnd_released hg hc, State.releaseArm, setArmStatus_quiet (by simpa using hlevel), State.clearClaim,
    State.occurReleased, State.occurEnded]
  obtain ⟨h1, h2, h3⟩ := armOccurrence_att (s.modArm a fun x => { x with lastEnd := some (g.lastEnd cause), counterA := 0, counterB := 0 })
    a fun o => { o with ended := true }
  obtain ⟨k1, k2, k3⟩ := armOccurrence_att ((((s.modArm a fun x => { x with lastEnd := some (g.lastEnd cause), counterA := 0, counterB := 0 }).armOccurrence
    a fun o => { o with ended := true }).modArm a fun x => { x with status := .idle }).modArm a fun x => { x with claim := none })
    a fun o => { o with released := true }
  rw [k1, k2, k3]
  exact ⟨congrArg Occurrences.ended h1, rfl, rfl, h3⟩

end Sys2Proof.Machine.Arming
end

section
/-! The end of an uncounted segment at a LOADING bay (concluded). -/

namespace Sys2Proof.Machine.Arming

variable {s t u : State}

/-! ## The bay's change of state -/

theorem setBayState_frame (s : State) (b : BayId) (st : BayState) :
    SameExcept [.bays, .att] s (s.setBayState b st) ∧ (s.setBayState b st).att.edges = s.att.edges
      ∧ (s.setBayState b st).att.occurrences = s.att.occurrences
      ∧ ∀ src, src ≠ .bay b → (s.setBayState b st).att.marked src = s.att.marked src := by
  refine ⟨by simp [SameExcept], ?_⟩
  unfold State.setBayState
  dsimp only
  split
  · exact ⟨rfl, rfl, fun _ _ => rfl⟩
  · split
    · exact ⟨(put_edges _ _ _).1, (put_edges _ _ _).2, fun src h => put_marked_ne h _ _⟩
    · obtain ⟨-, h1, h2⟩ := levelChange_marks (s.modBay b fun x => { x with state := st }) (.bay b) s.att.edges.bay
        (s.bay b).state.level st.level
      exact ⟨h1, h2, fun src h => levelChange_marked_ne h _ _ _ _⟩

/-- What a change at a bay leaves: the other bays, and of the attention unit all but the bay's mark. -/
structure AtBay (b : BayId) (s t : State) : Prop where
  same : SameExcept [.bays, .att, .outputs] s t
  others : OtherBays b s t
  edges : t.att.edges = s.att.edges
  occurrences : t.att.occurrences = s.att.occurrences
  marks : ∀ src, src ≠ .bay b → t.att.marked src = s.att.marked src

theorem AtBay.refl (b : BayId) (s : State) : AtBay b s s := ⟨same_refl _ s, fun _ _ => rfl, rfl, rfl, fun _ _ => rfl⟩

theorem AtBay.trans {b : BayId} (h : AtBay b s t) (h' : AtBay b t u) : AtBay b s u :=
  ⟨same_trans h.same h'.same (by simp) (by simp), fun c hc => (h'.others c hc).trans (h.others c hc), h'.edges.trans h.edges,
    h'.occurrences.trans h.occurrences, fun src hs => (h'.marks src hs).trans (h.marks src hs)⟩

theorem atBay_modBay (s : State) (b : BayId) (f : Bay → Bay) : AtBay b s (s.modBay b f) :=
  ⟨by simp [SameExcept], fun _ hc => s.modBay_bay_ne hc f, rfl, rfl, fun _ _ => rfl⟩

theorem atBay_setBayState (s : State) (b : BayId) (st : BayState) : AtBay b s (s.setBayState b st) := by
  obtain ⟨h1, h2, h3, h4⟩ := setBayState_frame s b st
  exact ⟨same_mono h1 (by simp), fun _ hc => setBayState_bay_ne hc s st, h2, h3, h4⟩

theorem atBay_prompt (s : State) (b : BayId) (p : Prompt) : AtBay b s (s.prompt b p) :=
  ⟨by simp [SameExcept], fun _ hc => prompt_bay_ne hc s p, rfl, rfl, fun _ _ => rfl⟩

/-- The CARDED entry of a bay whose close is not due reaches the bay alone (R38). -/
theorem atBay_cardedEntry {b : BayId} (h : s.closeDue b = false) : AtBay b s (s.cardedEntry b) := by
  unfold State.cardedEntry
  dsimp only
  rw [if_neg (by simp [h])]
  split
  · exact (atBay_setBayState s b _).trans (atBay_prompt _ b _)
  · split
    · exact ((atBay_modBay s b _).trans (atBay_setBayState _ b _)).trans (atBay_prompt _ b _)
    · exact ((atBay_modBay s b _).trans (atBay_setBayState _ b _)).trans (atBay_prompt _ b _)

/-- A permitted bay whose close is not due is CARDED and prompts SELECT (R38, R48). -/
theorem cardedEntry_permitted {b : BayId} (h : s.closeDue b = false) (hp : (s.bay b).permitted = true) {o : Order}
    (ho : s.boundOrder? b = some o) :
    (s.cardedEntry b).bay b = { s.bay b with
        state := .carded, cardIdleTimer := some 600000, display := some (.select (o.lines.filter Line.loadable).length) }
      ∧ (s.cardedEntry b).outputs = s.outputs ++ [.prompt b (.select (o.lines.filter Line.loadable).length)] := by
  have hin : (s.bay b).inputs.estop = true ∧ (s.bay b).inputs.overfill = true := by
    simp only [Bay.permitted, allHealthy, Bool.and_eq_true] at hp
    exact ⟨hp.1.2, hp.1.1.2⟩
  unfold State.cardedEntry
  dsimp only
  rw [if_neg (by simp [h]), if_neg (by simp [hin]), if_neg (by simp [hp]), ho]
  simp [Config.cardIdleMs]

/-! ## The bay without its segment -/

/-- A bay is busy once an arm's segment has ended exactly when another's stands there. -/
theorem bayBusy_iff {a : ArmId} {b : BayId} (hnone : t.seg? a = none) (hother : OtherArms a s t) :
    t.bayBusy b = true ↔ OtherSegment a b s := by
  have hseg : ∀ c, c ≠ a → t.seg? c = s.seg? c := fun c hc => by rw [State.seg?, State.seg?, hother c hc]
  simp only [State.bayBusy, Bool.not_eq_true', List.isEmpty_eq_false_iff_exists_mem, mem_segArms]
  constructor
  · rintro ⟨c, h, hc, hb⟩
    have hca : c ≠ a := fun hca => by rw [hca, hnone] at hc; cases hc
    exact ⟨c, h, hca, by rw [← hseg c hca, hc], hb⟩
  · rintro ⟨c, h, hca, hc, hb⟩
    exact ⟨c, h, by rw [hseg c hca, hc], hb⟩

theorem line?_mem {o : Order} {c : Nat} {l : Line} (h : o.line? c = some l) : l ∈ o.lines ∧ l.compartment = c :=
  ⟨List.mem_of_find?_eq_some h, line?_compartment h⟩

theorem uncountedLine_loadable (x : Line) : (uncountedLine x).loadable = true := by
  unfold uncountedLine Line.loadable
  split <;> rfl

/-- An order with a line OPEN or PART is not due to close. -/
theorem closeDue_false {b : BayId} {o : Order} {l : Line} (ho : s.boundOrder? b = some o) (hl : l ∈ o.lines) (h : l.loadable = true) :
    s.closeDue b = false := by
  have : o.lines.all Line.finished = false := by
    rw [List.all_eq_false]
    refine ⟨l, hl, ?_⟩
    unfold Line.loadable at h
    unfold Line.finished
    cases hst : l.state <;> simp_all
  simp [State.closeDue, ho, this]

/-- The lines that SELECT counts once a compartment's line is OPEN or PART again. -/
theorem loadable_modLine (o : Order) (c : Nat) : ((o.modLine c uncountedLine).lines.filter Line.loadable).length = loadableWith o c := by
  rw [Order.modLine, loadableWith, List.filter_map, List.length_map]
  congr 2
  funext x
  simp only [Function.comp]
  by_cases hx : x.compartment = c
  · simp [hx, uncountedLine_loadable]
  · have hb : (x.compartment == c) = false := by simpa using hx
    rw [hb, if_neg (by simp), Line.loadable, Bool.false_or]

/-! ## The end -/

theorem modLine_orders_congr (h : t.orders = s.orders) (no c : Nat) (f : Line → Line) :
    (t.modLine no c f).orders = (s.modLine no c f).orders := by simp only [State.modLine, State.modOrder, h]

theorem modPermit_permits_congr (h : t.permits = s.permits) (card : Nat) (f : Permit → Permit) :
    (t.modPermit card f).permits = (s.modPermit card f).permits := by simp only [State.modPermit, h]

theorem order?_modLine_self (s : State) (no c : Nat) (f : Line → Line) :
    (s.modLine no c f).order? no = (s.order? no).map (Order.modLine c f) := order?_modOrder s no (f := Order.modLine c f) fun _ => rfl

theorem order?_modLine_ne (s : State) {no n : Nat} (hn : n ≠ no) (c : Nat) (f : Line → Line) :
    (s.modLine no c f).order? n = s.order? n := order?_modOrder_ne s hn (f := Order.modLine c f) fun _ => rfl

/-- The segment at its end once what it held is let go (R55, R74). -/
def letGoSegment (g : Segment) : Segment :=
  { g with wantTimer := none, injectorTimer := none, periodTimer := none, overrun := false, entry := none }

section
variable {a : ArmId} {g : Segment} {o : Order} {l : Line} {p : Permit} {cause : EndCause}

/-- Steps 1 to 5 of the end of an uncounted segment: the arm, the queues, the line and the permit. -/
theorem endSteps_records (h : Loads a g o l p s) (hc : cause ≠ .closed) :
    (s.endSteps a cause).arm a = { s.arm a with status := .segment (letGoSegment g) } ∧ OtherArms a s (s.endSteps a cause)
      ∧ (s.endSteps a cause).dosing = (s.leaveQueues a).dosing
      ∧ (s.endSteps a cause).orders = (s.modLine g.orderNo g.compartment uncountedLine).orders
      ∧ (s.endSteps a cause).permits = (s.modPermit o.card (uncountedCharge g.reservation)).permits := by
  have hsteps := endSteps_of_seg h.seg cause
  have hover : endOverrun s g = false := by simp [endOverrun, Segment.overran, h.uncounted]
  have harms := arm_of_arms (stepsToPin_arms s a g cause)
  obtain ⟨hne, hself, hdosing⟩ := releasePin_arm (stepsToPin a g cause s) a { g with overrun := endOverrun s g }
  obtain ⟨-, -, -, hpin⟩ := releasePin_spec (stepsToPin a g cause s) a { g with overrun := endOverrun s g }
  obtain ⟨hpermits, horders, -⟩ := hpin
  obtain ⟨hpermits', horders', -⟩ := endWaits_same s a
  rw [← hsteps] at hne hself hdosing hpermits horders
  refine ⟨?_, fun c hca => ?_, hdosing.trans (stepsToPin_dosing s a g cause), (horders.resolve_left (by simp)).trans ?_,
    (hpermits.resolve_left (by simp)).trans ?_⟩
  · rw [hself (stepsToPin_held h.seg cause), harms, modSeg_arm_self, hover, armModSeg_modSeg,
      modSeg_of_status (status_of_seg? h.seg)]
    rfl
  · rw [hne c hca, harms, modSeg_arm_ne hca]
  · rw [stepsToPin_uncounted h hc, State.modPermit_orders]
    exact modLine_orders_congr (horders'.resolve_left (by simp)) _ _ _
  · rw [stepsToPin_uncounted h hc]
    exact modPermit_permits_congr (hpermits'.resolve_left (by simp)) _ _

/-- Steps 1 to 5 of the end of an uncounted segment: the profile cache, the marks, and what stays. -/
theorem endSteps_cache (h : Loads a g o l p s) (hc : cause ≠ .closed) :
    (∀ e, (s.endSteps a cause).entry e = if g.entry = some e then
        (s.entry e).bind fun x => if x.dropping then none else some { x with pinCount := 0 } else s.entry e)
      ∧ (s.endSteps a cause).cache.recency
        = s.cache.recency.filter (fun e => !(g.entry == some e && (s.entry e).any (·.dropping)))
      ∧ (s.endSteps a cause).cache.wants = s.cache.wants.filter (fun w => w.arm != a)
      ∧ (s.endSteps a cause).att = (s.removeWant a).att
      ∧ SameExcept [.permits, .orders, .arms, .cache, .dosing, .att] s (s.endSteps a cause) := by
  have hsteps := endSteps_of_seg h.seg cause
  have hrecords := stepsToPin_uncounted h hc
  obtain ⟨hentry, hrec, hwants, hsame⟩ := releasePin_spec (stepsToPin a g cause s) a { g with overrun := endOverrun s g }
  rw [← hsteps] at hentry hrec hwants hsame
  have hcache : (stepsToPin a g cause s).cache = (s.removeWant a).cache := by rw [hrecords]; rfl
  have hentry' : (stepsToPin a g cause s).entry = s.entry :=
    entry_of_entries (by rw [hcache, (removeWant_frame s a).2.2.1])
  have hpin : SameExcept [.permits, .orders, .arms, .cache, .dosing, .att] s (stepsToPin a g cause s) := by
    have hwaits : SameExcept [.arms, .cache, .dosing, .att] s ((s.endWaits a).modSeg a fun x => { x with overrun := false }) :=
      same_trans (endWaits_same s a) (sameExcept_modSeg _ a _) (by decide) (by decide)
    have hsettled : ∀ v : State, SameExcept [.permits, .orders] v ((v.modLine g.orderNo g.compartment uncountedLine).modPermit o.card
        (uncountedCharge g.reservation)) := fun v => by simp [SameExcept]
    rw [hrecords]
    exact same_trans hwaits (hsettled _) (by decide) (by decide)
  refine ⟨fun e => ?_, ?_, ?_, ?_, same_trans hpin hsame (by simp) (by simp)⟩
  · rw [hentry, hentry']
  · rw [hrec, hcache, (removeWant_frame s a).2.2.2, hentry']
  · rw [hwants, hcache, removeWant_wants]
  · obtain ⟨-, -, -, -, -, -, -, -, -, hatt, -⟩ := hsame
    rw [hatt.resolve_left (by simp), hrecords]
    rfl

theorem queue_leaveQueues (s : State) (a : ArmId) (c : Nat) :
    (s.leaveQueues a).dosing.queue c = (s.dosing.queue c).filter fun w => w.arm != a := by
  simp only [Dosing.queue, State.leaveQueues, Vector.toList_map, List.getD_eq_getElem?_getD, List.getElem?_map]
  cases s.dosing.queues.toList[c - 1]? <;> rfl

theorem queue_of_queues (h : t.dosing.queues = s.dosing.queues) : t.dosing.queue = s.dosing.queue := by
  funext c; simp only [Dosing.queue, h]

/-- The claims of a segment at its end are those it held. -/
theorem releaseClaims_of_steps (h : Loads a g o l p s) (hc : cause ≠ .closed) :
    (s.endSteps a cause).releaseClaims a
      = (g.claims.map (·.injector)).foldl (fun t j => t.releaseClaim a j) (s.endSteps a cause) := by
  obtain ⟨harm, -⟩ := endSteps_records h hc
  have hseg : (s.endSteps a cause).seg? a = some (letGoSegment g) := by rw [State.seg?, harm]; rfl
  rw [State.releaseClaims, hseg]
  rfl

/-- What an end takes an uncounted segment's arm to, before its bay hears of it (R74 steps 1 to 7). -/
theorem endAtArm_uncounted (h : Loads a g o l p s) (hc : Releases cause) :
    UncountedEnd a g o p cause .idle none s (s.endAtArm a cause) ∧ ((s.endAtArm a cause).att.occurrences[a]).released = true
      ∧ OtherArms a s (s.endAtArm a cause)
      ∧ SameExcept [.permits, .orders, .arms, .cache, .dosing, .att] s (s.endAtArm a cause)
      ∧ (s.endAtArm a cause).order? g.orderNo = some (o.modLine g.compartment uncountedLine) := by
  obtain ⟨harm, hother, hdosing, horders, hpermits⟩ := endSteps_records h hc.1
  obtain ⟨hentry, hrec, hwants, hatt, hsame⟩ := endSteps_cache h hc.1
  obtain ⟨hinj, hrarm, hrother, hrq, hrr, hrsame⟩ := foldl_releaseClaim a (g.claims.map (·.injector)) (s.endSteps a cause)
  rw [← releaseClaims_of_steps h hc.1] at hinj hrarm hrother hrq hrr hrsame
  obtain ⟨g', hg', hlast⟩ : ∃ g', ((s.endSteps a cause).releaseClaims a).seg? a = some g' ∧ g'.lastEnd cause = g.lastEnd cause := by
    refine ⟨{ letGoSegment g with claims := (letGoSegment g).claims.filter fun c => !(g.claims.map (·.injector)).contains c.injector }, ?_, rfl⟩
    rw [State.seg?, hrarm, harm]
    rfl
  have hend : s.endAtArm a cause = _ := finishEnd_released hg' hc
  obtain ⟨hended, hreleased, hmark, hwant⟩ := finishEnd_att hg' hc
  change (s.endAtArm a cause).att.occurrences[a].ended = true at hended
  change (s.endAtArm a cause).att.occurrences[a].released = true at hreleased
  change (s.endAtArm a cause).att.armMarks[a] = true at hmark
  change (s.endAtArm a cause).att.wantMark = _ at hwant
  have hframe : SameExcept [.arms, .att] ((s.endSteps a cause).releaseClaims a) (s.endAtArm a cause) := by
    rw [hend]; simp [SameExcept]
  obtain ⟨fpermits, forders, -, -, -, fcache, fdosing, -⟩ := same_trans hrsame hframe (rs := [.arms, .dosing, .att]) (by decide) (by decide)
  have hdosing' : (s.endAtArm a cause).dosing = ((s.endSteps a cause).releaseClaims a).dosing := by
    obtain ⟨-, -, -, -, -, -, hd, -⟩ := hframe
    exact hd.resolve_left (by simp)
  have hcache' : (s.endAtArm a cause).cache = (s.endSteps a cause).cache := fcache.resolve_left (by simp)
  have horder : ∀ n, (s.endAtArm a cause).order? n = (s.modLine g.orderNo g.compartment uncountedLine).order? n := fun n => by
    rw [order?_of_orders ((forders.resolve_left (by simp)).trans horders)]
  have hpermit : ∀ n, (s.endAtArm a cause).permit? n = (s.modPermit o.card (uncountedCharge g.reservation)).permit? n := fun n => by
    rw [permit?_of_permits ((fpermits.resolve_left (by simp)).trans hpermits)]
  have horder' : (s.endAtArm a cause).order? g.orderNo = some (o.modLine g.compartment uncountedLine) := by
    rw [horder, order?_modLine_self, h.order]; rfl
  have hattr : ((s.endSteps a cause).releaseClaims a).att = (s.removeWant a).att := by
    obtain ⟨-, -, -, -, -, -, -, -, -, hatt', -⟩ := hrsame
    rw [hatt'.resolve_left (by simp), hatt]
  have hq : ∀ c, (s.endAtArm a cause).dosing.queue c = (s.leaveQueues a).dosing.queue c := fun c => by
    rw [hdosing', queue_of_queues hrq, hdosing]
  refine ⟨⟨?_, hended, hmark, ?_, ?_, fun n hn => ?_, fun n hn => ?_, ?_, ?_, fun c => ?_, fun e => ?_, ?_, fun j => ?_, ?_⟩, hreleased,
    fun c hca => ?_, ?_, horder'⟩
  · rw [hend, releaseArm_arm_self, State.occurEnded_arm, State.modArm_arm_self, hrarm, harm, hlast, Segment.lastEnd, h.uncounted]
    rfl
  · rw [horder', Order.modLine]
    simp only [beq_iff_eq]
    rfl
  · rw [hpermit, permit?_modPermit _ _ (f := uncountedCharge g.reservation) (fun _ => rfl), h.permit, Option.map_some, uncountedCharge, min_eq_right h.used]
  · rw [horder, order?_modLine_ne _ hn]
  · rw [hpermit, permit?_modPermit_ne _ hn (f := uncountedCharge g.reservation) (fun _ => rfl)]
  · rw [hcache', hwants]
  · have h1 := removeWant_marked s a
    rw [WantMarked, removeWant_wants] at h1
    rw [WantMarked, hcache', hwants, hwant, hattr, h1]
  · rw [hq, queue_leaveQueues]
  · rw [entry_of_entries (s := s.endSteps a cause) (congrArg Cache.entries hcache'), hentry]
  · rw [hcache', hrec]
  · rw [injector_of_injectors (s := (s.endSteps a cause).releaseClaims a) (congrArg Dosing.injectors hdosing'), hinj,
      injector_of_injectors (s := s) (by rw [hdosing]; rfl)]
    simp [List.any_eq_true]
  · rw [hdosing', hrr, hdosing]; rfl
  · rw [hend, releaseArm_arm_ne hca, State.occurEnded_arm, State.modArm_arm_ne _ hca, hrother c hca, hother c hca]
  · exact same_trans hsame (same_trans hrsame hframe (rs := [.arms, .dosing, .att]) (by decide) (by decide)) (by decide) (by decide)

end
end Sys2Proof.Machine.Arming
end

section
/-! The whole event of an uncounted segment's end at its LOADING bay (R41, R74). -/

namespace Sys2Proof.Machine.Arming

variable {s t u : State} {a : ArmId} {g : Segment} {o : Order} {l : Line} {p : Permit} {cause : EndCause}

/-- What happens at the bay leaves what the end left at the arm. -/
theorem uncountedEnd_atBay {st : ArmStatus} {cl : Option BayId} (h : UncountedEnd a g o p cause st cl s u) {b : BayId}
    (hb : AtBay b u t) : UncountedEnd a g o p cause st cl s t := by
  obtain ⟨hpermits, horders, -, -, harms, hcache, hdosing, -⟩ := hb.same
  have harm := arm_of_arms (harms.resolve_left (by simp))
  have horder := order?_of_orders (horders.resolve_left (by simp))
  have hpermit := permit?_of_permits (hpermits.resolve_left (by simp))
  have hc := hcache.resolve_left (by simp)
  have hd := hdosing.resolve_left (by simp)
  have hentry := entry_of_entries (congrArg Cache.entries hc)
  have hinj := injector_of_injectors (congrArg Dosing.injectors hd)
  have hmark : t.att.armMarks[a] = u.att.armMarks[a] := hb.marks (.arm a) (by simp)
  have hwant : t.att.wantMark = u.att.wantMark := hb.marks .want (by simp)
  unfold UncountedEnd OtherOrders OtherPermits WantMarked at *
  rw [harm, horder, hpermit, hc, hd, hentry, hinj, hmark, hwant, hb.occurrences]
  exact h

/-- The event of an uncounted segment's end whose claims find nobody: its steps at the arm, then its part at the bay. -/
theorem runJobs_endSegment (h : Loads a g o l p s) (hno : NoWaiterFor a g s) (hc : Releases cause) {n : Nat} (hn : 12 ≤ n) :
    runJobs n [.endSegment a cause] s = ((s.endAtArm a cause).prompt g.bay (.stopped a cause)).settleBay g.bay := by
  obtain ⟨n, rfl⟩ : ∃ n', n = n' + 1 := ⟨n - 1, by omega⟩
  have hclaims := h.claims
  obtain ⟨-, -, hdosing, -⟩ := endSteps_records h hc.1
  have hinj := injector_of_injectors (s := s) (t := s.endSteps a cause) (by rw [hdosing]; rfl)
  have hfree : ∀ k ∈ g.claims, ∀ w ∈ (s.endSteps a cause).dosing.queue ((s.endSteps a cause).injector k.injector).cls,
      w.arm ∉ ((s.endSteps a cause).injector k.injector).reach := fun k hk w hw => by
    rw [hinj, hdosing, queue_leaveQueues] at hw
    obtain ⟨hw, hwa⟩ := List.mem_filter.1 hw
    rw [hinj]
    exact (hno k hk w hw).resolve_left (by simpa using hwa)
  obtain ⟨m, hm, hrun⟩ := runJobs_releases a g.claims [.finishEnd a cause, .bayEnd g.bay a cause] (s.endSteps a cause) hfree n (by omega)
  obtain ⟨m, rfl⟩ : ∃ m', m = m' + 3 := ⟨m - 3, by omega⟩
  obtain ⟨-, -, -, hsame, -⟩ := endAtArm_uncounted h hc
  obtain ⟨hend, -⟩ := endAtArm_uncounted h hc
  have hbay : (s.endAtArm a cause).bay g.bay = s.bay g.bay := by
    obtain ⟨-, -, -, hbays, -⟩ := hsame
    rw [bay_of_bays (hbays.resolve_left (by simp))]
  have hwaits : ((s.endAtArm a cause).arm a).waitsFor g.bay = false := by rw [hend.1]; rfl
  have hbayEnd : (s.endAtArm a cause).bayEnd g.bay a cause
      = ((s.endAtArm a cause).prompt g.bay (.stopped a cause), [.settleBay g.bay]) := by
    unfold State.bayEnd
    simp only [hbay, h.loading, hwaits]
    rfl
  rw [runJobs_cons]
  simp only [doJob, h.seg, List.append_nil]
  rw [hrun, ← releaseClaims_of_steps h hc.1]
  simp only [runJobs_cons, doJob, List.nil_append]
  rw [← State.endAtArm, hbayEnd]
  simp only [List.append_nil, runJobs_cons, doJob, runJobs_nil]

/-- An uncounted segment of a LOADING bay ends, its claims released to nobody. -/
theorem endsUncounted_endSegment (h : Loads a g o l p s) (hno : NoWaiterFor a g s) (hc : Releases cause) {n : Nat} (hn : 12 ≤ n) :
    EndsUncounted a g cause s (runJobs n [.endSegment a cause] s) := by
  rw [runJobs_endSegment h hno hc hn]
  obtain ⟨hend, hreleased, hother, hsame, horder⟩ := endAtArm_uncounted h hc
  have hprompt := atBay_prompt (s.endAtArm a cause) g.bay (.stopped a cause)
  have hseg : ((s.endAtArm a cause).prompt g.bay (.stopped a cause)).seg? a = none := by
    rw [State.prompt_seg?, State.seg?, hend.1]; rfl
  have hbay : (s.endAtArm a cause).bay = s.bay := by
    obtain ⟨-, -, -, hbays, -⟩ := hsame
    exact bay_of_bays (hbays.resolve_left (by simp))
  have houtputs : (s.endAtArm a cause).outputs = s.outputs := by
    obtain ⟨-, -, -, -, -, -, -, -, -, -, -, -, ho, -⟩ := hsame
    exact ho.resolve_left (by simp)
  have hbusy := bayBusy_iff (t := (s.endAtArm a cause).prompt g.bay (.stopped a cause)) (b := g.bay) hseg hother
  have hbound : ((s.endAtArm a cause).prompt g.bay (.stopped a cause)).boundOrder? g.bay
      = some (o.modLine g.compartment uncountedLine) := by
    rw [State.boundOrder?, prompt_bay_self, hbay]
    simp only [h.bound, Option.bind_some]
    exact horder
  have hdue : ((s.endAtArm a cause).prompt g.bay (.stopped a cause)).closeDue g.bay = false := by
    obtain ⟨hl, hlc⟩ := line?_mem h.line
    refine closeDue_false hbound (l := uncountedLine l) (List.mem_map.2 ⟨l, hl, ?_⟩) (uncountedLine_loadable l)
    rw [hlc, beq_self_eq_true, if_pos rfl]
  have hatBay : AtBay g.bay (s.endAtArm a cause) (((s.endAtArm a cause).prompt g.bay (.stopped a cause)).settleBay g.bay) := by
    refine hprompt.trans ?_
    by_cases hb : ((s.endAtArm a cause).prompt g.bay (.stopped a cause)).bayBusy g.bay = true
    · rw [settleBay_of_busy hb]; exact .refl _ _
    · rw [settleBay_of_free (.inl (by rw [prompt_bay_self, hbay]; exact h.loading)) (by simpa using hb)]
      exact atBay_cardedEntry hdue
  have hall : SameExcept [.permits, .orders, .bays, .arms, .cache, .dosing, .att, .outputs] s
      (((s.endAtArm a cause).prompt g.bay (.stopped a cause)).settleBay g.bay) :=
    same_trans hsame hatBay.same (by decide) (by decide)
  refine ⟨o, p, h.order, h.permit, uncountedEnd_atBay hend hatBay, ?_, ⟨fun hs => ?_, fun hs hp => ?_⟩, fun c hca => ?_, fun c hcb => ?_,
    hall⟩
  · rw [hatBay.occurrences]; exact hreleased
  · rw [settleBay_of_busy (hbusy.2 hs), prompt_bay_self, prompt_outputs, hbay, houtputs]
    exact ⟨rfl, rfl⟩
  · rw [settleBay_of_free (.inl (by rw [prompt_bay_self, hbay]; exact h.loading)) (by simpa using mt hbusy.1 hs)]
    obtain ⟨hb, ho⟩ := cardedEntry_permitted hdue (by rw [prompt_bay_self, hbay]; exact hp) hbound
    rw [loadable_modLine] at hb ho
    rw [hb, ho, prompt_bay_self, prompt_outputs, hbay, houtputs, List.append_assoc]
    exact ⟨rfl, rfl⟩
  · obtain ⟨-, -, -, -, harms, -⟩ := hatBay.same
    rw [arm_of_arms (harms.resolve_left (by simp)), hother c hca]
  · rw [hatBay.others c hcb, hbay]

end Sys2Proof.Machine.Arming
end

section
/-! Confirm edges and confirm expiries: strokes counted, releases resolved, strays, misses, and the fault of an injector at the
segment that holds it (R63, R136, R137, R138, R139, R140, R142). -/

namespace Sys2Proof.Machine.Arming

variable {s t u : State}

/-! ## The cap (R140) -/

theorem owed_eq (x : Injector) : x.owed = owedShots x := by
  unfold Injector.owed owedShots Injector.threshold
  cases x.firing <;> cases x.queued <;> rfl

theorem foldl_max_le (xs : List Nat) (n m : Nat) : xs.foldl max n ≤ m ↔ n ≤ m ∧ ∀ x ∈ xs, x ≤ m := by
  induction xs generalizing n with
  | nil => simp
  | cons x xs ih => simp [ih, and_assoc]

/-- The cap under the largest owed shots is the cap under each claim's. -/
theorem capAfter_eq (s : State) (g : Segment) (cap : Bool) : capAfter (s.largestOwed g) cap =
    if g.claims.any fun k => 3 ≤ owedShots (s.injector k.injector) then true
    else if g.claims.all fun k => owedShots (s.injector k.injector) ≤ 1 then false else cap := by
  have hle : ∀ m, s.largestOwed g ≤ m ↔ ∀ k ∈ g.claims, owedShots (s.injector k.injector) ≤ m := fun m => by
    simp [State.largestOwed, foldl_max_le, owed_eq]
  have h3 : 3 ≤ s.largestOwed g ↔ (g.claims.any fun k => 3 ≤ owedShots (s.injector k.injector)) = true := by
    rw [← not_lt, Nat.lt_succ_iff, hle 2]
    simp [Nat.lt_iff_add_one_le]
  have h1 : s.largestOwed g ≤ 1 ↔ (g.claims.all fun k => owedShots (s.injector k.injector) ≤ 1) = true := by
    rw [hle 1]; simp
  unfold capAfter
  simp only [h3, h1]

theorem evalCap_eq (s : State) (a : ArmId) : s.evalCap a = s.modSeg a fun g => { g with cap := capUnder s g } := by
  unfold State.evalCap
  congr 1
  funext g
  rw [capAfter_eq]
  rfl

/-- The cap depends on the injectors alone. -/
theorem capUnder_congr (h : t.injector = s.injector) : capUnder t = capUnder s := by
  funext g; simp only [capUnder, h]

/-- The segment of an injector's claimant has its cap evaluated; no other arm changes. -/
theorem evalCapOf_arm (s : State) (j : InjId) (a : ArmId) : (s.evalCapOf j).arm a =
    if (s.injector j).claimant.map (·.arm) = some a then (s.arm a).modSeg fun g => { g with cap := capUnder (s.evalCapOf j) g }
    else s.arm a := by
  unfold State.evalCapOf
  cases hc : (s.injector j).claimant with
  | none => simp
  | some c =>
    have hinj : (s.evalCap c.arm).injector = s.injector := rfl
    simp only [Option.map_some, Option.some.injEq]
    rw [capUnder_congr hinj, evalCap_eq]
    by_cases ha : c.arm = a
    · rw [if_pos ha, ← ha, modSeg_arm_self]
    · rw [if_neg ha, modSeg_arm_ne (Ne.symm ha)]

theorem evalCapOf_frame (s : State) (j : InjId) : (s.evalCapOf j).injector = s.injector ∧ SameExcept [.arms] s (s.evalCapOf j) := by
  unfold State.evalCapOf
  split
  · exact ⟨rfl, sameExcept_modSeg s _ _⟩
  · exact ⟨rfl, same_refl _ s⟩

/-! ## The settle (R135) -/

/-- Nothing to settle: no shot queued, no whole shot in the accumulator. -/
theorem settle_idle {x : Injector} (hq : x.queued = false) (ha : x.accNl < x.shotUl * 1000) : x.settle = x := by
  have h1 : x.queueShot = x := by
    unfold Injector.queueShot Injector.threshold
    rw [if_neg (by simp; omega)]
  have h2 : x.fireShot = x := by simp [Injector.fireShot, hq]
  rw [Injector.settle, h1, h2, h1]

/-- A queued shot fires at an injector that fires none. -/
theorem settle_fires {x : Injector} (hq : x.queued = true) (hf : x.firing = false) (ha : x.accNl < x.shotUl * 1000) :
    x.settle = { x with queued := false, firing := true, confirmTimer := some 2000 } := by
  have h1 : x.queueShot = x := by simp [Injector.queueShot, hq]
  have h2 : x.fireShot = { x with queued := false, firing := true, confirmTimer := some 2000 } := by
    simp [Injector.fireShot, hq, hf, Config.confirmMs]
  rw [Injector.settle, h1, h2, Injector.queueShot, if_neg]
  simp [Injector.threshold, Nat.not_le.2 ha]

theorem settleInjector_idle {j : InjId} (hq : (s.injector j).queued = false) (ha : (s.injector j).accNl < (s.injector j).shotUl * 1000) :
    s.settleInjector j = s := by
  have hs := settle_idle hq ha
  unfold State.settleInjector
  split
  · rw [modInjector_eq_self hs]
    simp
  · rfl

theorem settleInjector_fires {j : InjId} (hc : (s.injector j).state = .claimed) (hq : (s.injector j).queued = true)
    (hf : (s.injector j).firing = false) (ha : (s.injector j).accNl < (s.injector j).shotUl * 1000) :
    s.settleInjector j = (s.modInjector j fun x => { x with queued := false, firing := true, confirmTimer := some 2000 }).emit
      (.stroke j) := by
  have hs := settle_fires hq hf ha
  unfold State.settleInjector
  rw [if_pos hc]
  dsimp only
  rw [State.modInjector_injector_self, hs, if_pos (by simp [hf])]
  rw [modInjector_congr (f' := fun x => { x with queued := false, firing := true, confirmTimer := some 2000 }) hs]

theorem otherInjectors_modInjector (s : State) (j : InjId) (f : Injector → Injector) : OtherInjectors j s (s.modInjector j f) :=
  fun _ hi => s.modInjector_injector_ne hi f

theorem sameExcept_modInjector (s : State) (j : InjId) (f : Injector → Injector) : SameExcept [.dosing] s (s.modInjector j f) := by
  simp [SameExcept]

theorem modInjector_queues (s : State) (j : InjId) (f : Injector → Injector) :
    (s.modInjector j f).dosing.queues = s.dosing.queues ∧ (s.modInjector j f).dosing.recipes = s.dosing.recipes := ⟨rfl, rfl⟩

/-! ## The fault of an injector (R139) -/

/-- The change of an injector's state into FAULT: its record, its mark, and nothing else (R168). -/
theorem setInjectorState_fault {j : InjId} (h : (s.injector j).state.level = false) :
    (s.setInjectorState j .fault).dosing = (s.modInjector j fun x => { x with state := .fault }).dosing
      ∧ SameExcept [.dosing, .att] s (s.setInjectorState j .fault)
      ∧ (s.att.edges.injector ≠ .clearance → (s.setInjectorState j .fault).att.injectorMarks[j] = true) := by
  refine ⟨by simp [State.setInjectorState], by simp [SameExcept], fun hsel => ?_⟩
  have hm := (levelChange_marks (s.modInjector j fun x => { x with state := .fault }) (.injector j) s.att.edges.injector
    (s.injector j).state.level InjectorState.fault.level).1
  rw [show (s.setInjectorState j .fault).att.injectorMarks[j] = (s.setInjectorState j .fault).att.marked (.injector j) from rfl,
    State.setInjectorState, hm, markAfter, h]
  simp [InjectorState.level, hsel]

/-- An injector in FAULT with nothing in progress. -/
def faulted (x : Injector) : Injector := { x with state := .fault, firing := false, confirmTimer := none, queued := false, accNl := 0 }

/-- The injector's part of a fault. -/
def faultedAt (j : InjId) (s : State) : State :=
  (s.modInjector j fun y => { y with queued := false, accNl := 0, confirmTimer := none, firing := false }).setInjectorState j .fault

theorem faultedAt_spec {j : InjId} (h : (s.injector j).state.level = false) :
    (faultedAt j s).injector j = faulted (s.injector j) ∧ OtherInjectors j s (faultedAt j s)
      ∧ (faultedAt j s).dosing.queues = s.dosing.queues ∧ (faultedAt j s).dosing.recipes = s.dosing.recipes
      ∧ SameExcept [.dosing, .att] s (faultedAt j s)
      ∧ (s.att.edges.injector ≠ .clearance → (faultedAt j s).att.injectorMarks[j] = true) := by
  obtain ⟨hd, hs, hm⟩ := setInjectorState_fault (s := s.modInjector j fun y =>
    { y with queued := false, accNl := 0, confirmTimer := none, firing := false }) (j := j) (by simpa using h)
  refine ⟨?_, fun i hi => ?_, ?_, ?_, same_trans (sameExcept_modInjector s j _) hs (by decide) (by decide), hm⟩
  · rw [faultedAt, setInjectorState_injector_self, State.modInjector_injector_self]; rfl
  · rw [faultedAt, setInjectorState_injector_ne hi, State.modInjector_injector_ne _ hi]
  · rw [faultedAt, hd]; rfl
  · rw [faultedAt, hd]; rfl

/-- A free injector's fault reaches no segment. -/
theorem faultEntry_free {j : InjId} (h : (s.injector j).state ≠ .claimed) : s.faultEntry j = (faultedAt j s, []) := by
  unfold State.faultEntry
  dsimp only
  split
  · next hc _ => exact absurd hc h
  · rfl

/-- A segment marked by the fault of the injector of its component. -/
def faultMarked (j : InjId) (index : Nat) (s : State) (g : Segment) : Segment :=
  { g with
    claims := g.claims.map fun d => if d.injector = j then { d with doseFault := true } else d
    doseFault := g.doseFault ||| BitVec.twoPow 3 (index - 1)
    cap := capUnder s g }

theorem capUnder_doseFault (s : State) (g : Segment) (j : InjId) (b : BitVec 3) :
    capUnder s { g with claims := g.claims.map (fun d => if d.injector = j then { d with doseFault := true } else d), doseFault := b }
      = capUnder s g := by
  have hinj : ∀ d : Claim, (if d.injector = j then { d with doseFault := true } else d).injector = d.injector := fun d => by
    split <;> rfl
  simp only [capUnder, List.any_map, List.all_map, Function.comp_def, hinj]

/-- A CLAIMED injector's fault at its claimant's segment: the segment marked, closed under a mandatory component when it flows, and
ended in AWAIT_INJECTOR. -/
theorem faultSegment_eq {j : InjId} {c : Claimant} {g : Segment} {k : Claim} (hg : s.seg? c.arm = some g)
    (hk : g.claims.find? (·.index == c.index) = some k) :
    s.faultSegment j c = (s.modSeg c.arm fun x =>
        if k.component.mandatory = true ∧ g.phase ≠ .awaitInjector then (faultMarked j c.index s x).shutFlowing .doseFault
        else faultMarked j c.index s x,
      if k.component.mandatory = true ∧ g.phase = .awaitInjector then [.endSegment c.arm .doseFault] else []) := by
  have hmark : ((s.modSeg c.arm fun x => { x with
      claims := x.claims.map fun d => if d.injector == j then { d with doseFault := true } else d
      doseFault := x.doseFault ||| BitVec.twoPow 3 (c.index - 1) }).evalCap c.arm)
      = s.modSeg c.arm (faultMarked j c.index s) := by
    rw [evalCap_eq, modSeg_modSeg]
    congr 1
    funext x
    simp only [beq_iff_eq]
    exact congrArg (fun cap => ({ x with
      claims := x.claims.map fun d => if d.injector = j then { d with doseFault := true } else d
      doseFault := x.doseFault ||| BitVec.twoPow 3 (c.index - 1), cap := cap } : Segment)) (capUnder_doseFault s x j _)
  unfold State.faultSegment
  rw [hg]
  dsimp only
  rw [hmark, show g.claims? c.index = some k from hk]
  cases hm : k.component.mandatory with
  | false => simp [hm]
  | true =>
    by_cases hp : g.phase = .awaitInjector
    · simp [hm, hp]
    · simp only [hm, hp, Option.any_some, Bool.not_true, Bool.false_eq_true, if_false, modSeg_modSeg, and_false, and_true, ne_eq,
        not_false_iff, if_true]

end Sys2Proof.Machine.Arming
end

section
/-! Confirm edges and confirm expiries (concluded): the fault of a CLAIMED injector with what follows in its event, and the statements
about both commands. -/

namespace Sys2Proof.Machine.Arming

variable {s t u : State}

/-- The claimant's segment after the fault of its injector (R139). -/
def faultedSegment (j : InjId) (c : Claimant) (k : Claim) (s : State) (g : Segment) : Segment :=
  if k.component.mandatory = true ∧ g.phase ≠ .awaitInjector then (faultMarked j c.index s g).shutFlowing .doseFault
  else faultMarked j c.index s g

theorem shutFlowing_fields (cause : EndCause) (g : Segment) :
    (g.shutFlowing cause).claims = g.claims ∧ (g.shutFlowing cause).cap = g.cap
      ∧ (g.shutFlowing cause).doseFault = g.doseFault := by
  rw [shutFlowing_eq]
  split <;> exact ⟨rfl, rfl, rfl⟩

/-- The marks of the fault, and the close of a flowing segment under a mandatory component. -/
theorem faultedSegment_spec (j : InjId) (c : Claimant) (k : Claim) (s : State) (g : Segment) :
    let flowing := g.phase = .lowStart ∨ g.phase = .high ∨ g.phase = .lowStop
    let g' := faultedSegment j c k s g
    g'.claims = g.claims.map (fun d => if d.injector = j then { d with doseFault := true } else d) ∧ g'.cap = capUnder s g
      ∧ (∀ i, i < 3 → g'.doseFault.getLsbD i = (decide (i = c.index - 1) || g.doseFault.getLsbD i))
      ∧ (k.component.mandatory = true → flowing → g' = { g with
          claims := g'.claims, cap := g'.cap, doseFault := g'.doseFault
          phase := .closing, endCause := some .doseFault, closeRecorded := true, closeCounter := 0, zeroRun := 0 })
      ∧ (k.component.mandatory = false ∨ ¬ flowing →
        g' = { g with claims := g'.claims, cap := g'.cap, doseFault := g'.doseFault }) := by
  intro flowing g'
  have hbits : ∀ i, i < 3 → (faultMarked j c.index s g).doseFault.getLsbD i = (decide (i = c.index - 1) || g.doseFault.getLsbD i) := by
    intro i hi
    simp [faultMarked, hi, eq_comm, Bool.or_comm]
  obtain ⟨h1, h2, h3⟩ := shutFlowing_fields .doseFault (faultMarked j c.index s g)
  by_cases hm : k.component.mandatory = true ∧ g.phase ≠ .awaitInjector
  · have hg' : g' = (faultMarked j c.index s g).shutFlowing .doseFault := if_pos hm
    rw [hg', h1, h2, h3]
    refine ⟨rfl, rfl, hbits, fun _ hf => ?_, fun hnf => ?_⟩
    · rw [shutFlowing_eq]
      exact if_pos hf
    · rw [shutFlowing_eq]
      exact if_neg (hnf.resolve_left (by simp [hm.1]))
  · have hg' : g' = faultMarked j c.index s g := if_neg hm
    rw [hg']
    refine ⟨rfl, rfl, hbits, fun hman hf => absurd ⟨hman, fun hp => ?_⟩ hm, fun _ => rfl⟩
    rcases hf with hf | hf | hf <;> rw [hp] at hf <;> cases hf

/-- The fault of a CLAIMED injector whose record an update has just changed. -/
theorem claimFaults_faultEntry {j : InjId} {c : Claimant} {g : Segment} {k : Claim} {f : Injector → Injector} {y : Injector}
    (hclaimed : (f (s.injector j)).state = .claimed) (hc : (f (s.injector j)).claimant = some c)
    (hy : faulted (f (s.injector j)) = faulted y)
    (hreach : (f (s.injector j)).reach = (s.injector j).reach ∧ (f (s.injector j)).cls = (s.injector j).cls)
    (hg : s.seg? c.arm = some g) (hk : g.claims.find? (·.index == c.index) = some k) :
    ClaimFaults j c g k y s (settle ((s.modInjector j f).faultEntry j)) := by
  have hself : (s.modInjector j f).injector j = f (s.injector j) := s.modInjector_injector_self j f
  obtain ⟨hinj, hother, hq, hr, hsame, hmark⟩ := faultedAt_spec (s := s.modInjector j f) (j := j) (by rw [hself, hclaimed]; rfl)
  have hseg : (faultedAt j (s.modInjector j f)).seg? c.arm = some g := by
    rw [faultedAt, State.setInjectorState_seg?, State.modInjector_seg?, State.modInjector_seg?, hg]
  have hentry : (s.modInjector j f).faultEntry j = (faultedAt j (s.modInjector j f)).faultSegment j c := by
    unfold State.faultEntry
    simp only [hself, hclaimed, hc]
    rfl
  have hsame' : SameExcept [.dosing, .att] s (faultedAt j (s.modInjector j f)) :=
    same_trans (sameExcept_modInjector s j f) hsame (by decide) (by decide)
  have hother' : OtherInjectors j s (faultedAt j (s.modInjector j f)) := fun i hi => by
    rw [hother i hi, s.modInjector_injector_ne hi]
  rw [hentry, faultSegment_eq hseg hk]
  generalize faultedAt j (s.modInjector j f) = v at *
  obtain ⟨hclaims, hcap, hbits, hclose, hopen⟩ := faultedSegment_spec j c k v g
  have harm : v.arm = s.arm := by
    obtain ⟨-, -, -, -, harms, -⟩ := hsame'
    exact arm_of_arms (harms.resolve_left (by simp))
  have hfault : FaultsSegment j c g (faultedSegment j c k v g) k y s (v.modSeg c.arm fun x =>
      if k.component.mandatory = true ∧ g.phase ≠ .awaitInjector then (faultMarked j c.index v x).shutFlowing .doseFault
      else faultMarked j c.index v x) := by
    refine ⟨?_, ?_, hclaims, hcap, hbits, hclose, hopen, hmark, hr, hq, hother', fun a ha => ?_,
      same_trans hsame' (sameExcept_modSeg v _ _) (by decide) (by decide)⟩
    · exact hinj.trans ((congrArg faulted hself).trans hy)
    · rw [modSeg_arm_of_seg? hseg, harm]; rfl
    · rw [modSeg_arm_ne ha, harm]
  by_cases hend : k.component.mandatory = true ∧ g.phase = .awaitInjector
  · refine ⟨fun h => absurd hend (fun h' => h.elim (by simp [h'.1]) fun h => h h'.2), fun _ _ o l p hun hload => ?_⟩
    refine ⟨_, _, hfault, ?_⟩
    obtain ⟨-, hcounted, hnet, hlen, hno, hbound, horder, hline, hpermit, hused⟩ := hun
    rw [if_pos hend]
    have hg' := hopen (.inr (by rw [hend.2]; simp))
    have hmapped : ∀ d ∈ (faultedSegment j c k v g).claims, ∃ d' ∈ g.claims, d.injector = d'.injector := fun d hd => by
      rw [hclaims] at hd
      obtain ⟨d', hd', rfl⟩ := List.mem_map.1 hd
      exact ⟨d', hd', by split <;> rfl⟩
    obtain ⟨-, hsegarm, -, -, -, -, -, -, -, hqs, hothers, -, hall⟩ := hfault
    obtain ⟨hpermits, horders, -, hbays, -⟩ := hall
    have hbay := bay_of_bays (hbays.resolve_left (by simp))
    have hlist : (faultedSegment j c k v g).claims.length = g.claims.length := by rw [hclaims, List.length_map]
    refine endsUncounted_endSegment (o := o) (l := l) (p := p) ⟨?_, ?_, ?_, by omega, ?_, ?_, ?_, ?_, ?_, hused⟩ (fun d hd w hw => ?_)
      ⟨by simp, by simp, by simp⟩ (by decide)
    · rw [State.seg?, hsegarm]; rfl
    · rw [hg']; exact hcounted
    · rw [hg']; exact hnet
    · rw [hg', hbay]; exact hbound
    · rw [hg', hbay]; exact hload
    · rw [hg', order?_of_orders (horders.resolve_left (by simp))]; exact horder
    · rw [hg']; exact hline
    · rw [permit?_of_permits (hpermits.resolve_left (by simp))]; exact hpermit
    · obtain ⟨d', hd', hdd⟩ := hmapped d hd
      have hsimilar : ((v.modSeg c.arm fun x =>
          if k.component.mandatory = true ∧ g.phase ≠ .awaitInjector then (faultMarked j c.index v x).shutFlowing .doseFault
          else faultMarked j c.index v x).injector d.injector).reach = (s.injector d.injector).reach
          ∧ ((v.modSeg c.arm fun x =>
          if k.component.mandatory = true ∧ g.phase ≠ .awaitInjector then (faultMarked j c.index v x).shutFlowing .doseFault
          else faultMarked j c.index v x).injector d.injector).cls = (s.injector d.injector).cls := by
        by_cases hj : d.injector = j
        · rw [State.modSeg_injector, hj, hinj, hself]
          exact hreach
        · rw [hothers _ hj]
          exact ⟨rfl, rfl⟩
      rw [hsimilar.2, queue_of_queues hqs, hdd] at hw
      rw [hsimilar.1, hdd]
      exact hno d' hd' w hw
  · refine ⟨fun _ => ?_, fun hman hp => absurd ⟨hman, hp⟩ hend⟩
    rw [if_neg hend, settle_nil]
    exact ⟨_, hfault⟩

end Sys2Proof.Machine.Arming
end

section
/-! Confirm edges and confirm expiries: the statements. -/

namespace Sys2Proof.Machine.Arming

variable {s t u : State}

/-- An injector's record has changed: the cap of its claimant's segment is evaluated (R136, R137, R140). -/
theorem evalCapOf_spec {v : State} {j : InjId} {y : Injector} {ps : List Part} (hinj : v.injector j = y)
    (hc : y.claimant = (s.injector j).claimant) (hother : OtherInjectors j s v) (harm : v.arm = s.arm) (hsame : SameExcept ps s v) :
    (v.evalCapOf j).injector j = y ∧ OtherInjectors j s (v.evalCapOf j) ∧ SameExcept (.arms :: ps) s (v.evalCapOf j)
      ∧ ∀ a, (v.evalCapOf j).arm a = if (s.injector j).claimant.map (·.arm) = some a then
          (s.arm a).modSeg fun g => { g with cap := capUnder (v.evalCapOf j) g } else s.arm a := by
  obtain ⟨hinj', hsame'⟩ := evalCapOf_frame v j
  refine ⟨by rw [hinj', hinj], fun i hi => by rw [hinj', hother i hi], same_trans hsame hsame' (by simp) (by simp), fun a => ?_⟩
  rw [evalCapOf_arm, hinj, hc, harm]

theorem exec_confirmEdge (j : InjId) (s : State) : exec (.confirmEdge j) s = .next (settle (s.confirmEdge j)) := rfl

theorem exec_confirmExpiry (j : InjId) (s : State) : exec (.confirmTimerExpiry j) s = .next (settle (s.confirmExpiry j)) := rfl

theorem exec_faultStray {j : InjId} (h : (s.injector j).nextStrayFaults = true) :
    exec (.injectorFault j .stray) s = .next (settle (s.confirmEdge j)) := by
  simp [exec, execInjectorFault, h]

theorem exec_faultMiss {j : InjId} (h : (s.injector j).nextMissFaults = true) :
    exec (.injectorFault j .miss) s = .next (settle (s.confirmExpiry j)) := by
  simp [exec, execInjectorFault, h]

/-- A confirm edge at a claimed injector with a stroke firing counts it. -/
theorem confirmEdge_stroke {j : InjId} (hs : (s.injector j).state = .claimed) (hf : (s.injector j).firing = true) :
    s.confirmEdge j = (((s.modInjector j fun y =>
      { y with confirmed := y.confirmed + 1, misses := 0, confirmTimer := none, firing := false }).settleInjector j).evalCapOf j, []) := by
  unfold State.confirmEdge
  simp only [hs, hf, if_true]

/-- A confirm edge at an idle injector, or a claimed one that fires no stroke, is a stray. -/
theorem confirmEdge_stray {j : InjId} (h : (s.injector j).state = .idle ∨ (s.injector j).state = .claimed ∧ (s.injector j).firing = false) :
    s.confirmEdge j = s.stray j := by
  unfold State.confirmEdge
  rcases h with h | ⟨h, hf⟩
  · simp only [h]
  · simp only [h, hf, Bool.false_eq_true, if_false]

theorem stray_counts {j : InjId} (h : (s.injector j).strays < 4) :
    s.stray j = (s.modInjector j fun y => { y with strays := y.strays + 1 }, []) := by
  unfold State.stray
  dsimp only
  rw [if_neg (by simp [Config.strayLimit]; omega)]

theorem stray_fifth {j : InjId} (h : (s.injector j).strays = 4) :
    s.stray j = (s.modInjector j fun y => { y with strays := 5 }).faultEntry j := by
  unfold State.stray
  dsimp only
  rw [if_pos (by simp [Config.strayLimit, h]), modInjector_congr (f' := fun y => { y with strays := 5 }) (by simp [h])]

theorem nextStrayFaults_iff (x : Injector) :
    x.nextStrayFaults = true ↔ (x.state = .idle ∨ x.state = .claimed ∧ x.firing = false) ∧ 4 ≤ x.strays := by
  simp [Injector.nextStrayFaults, Config.strayLimit]

theorem nextMissFaults_iff (x : Injector) : x.nextMissFaults = true ↔
    (x.confirmTimer.isSome = true ∧ (x.state = .claimed ∨ x.state = .releasing)) ∧ 2 ≤ x.misses := by
  simp [Injector.nextMissFaults, Config.missLimit]

/-- The release of an injector resolved, with no waiter in its reach. -/
theorem settle_released {j : InjId} {f : Injector → Injector} (h : (f (s.injector j)).state = .releasing)
    (hf : (f (s.injector j)).reach = (s.injector j).reach ∧ (f (s.injector j)).cls = (s.injector j).cls)
    (hw : ∀ w ∈ s.dosing.queue (s.injector j).cls, w.arm ∉ (s.injector j).reach) :
    settle ((s.modInjector j f).setInjectorState j .idle, [.grant j]) = s.modInjector j fun x => { f x with state := .idle } := by
  have hquiet : (s.modInjector j f).setInjectorState j .idle = s.modInjector j fun x => { f x with state := .idle } := by
    rw [setInjectorState_quiet (by rw [State.modInjector_injector_self, h]; rfl), modInjector_modInjector]
  have hgrant : (s.modInjector j fun x => { f x with state := .idle }).grant j
      = (s.modInjector j fun x => { f x with state := .idle }, []) := by
    refine grant_none ?_
    rw [State.modInjector_injector_self]
    simp only [hf]
    exact hw
  rw [hquiet, settle_cons]
  simp only [doJob, hgrant, List.append_nil, runJobs_nil]

/-- Settles O39. -/
theorem confirmEdge : Obligations.ConfirmEdge := by
  unfold Obligations.ConfirmEdge
  intro s j x held
  refine ⟨fun h => ?_, fun hs hf hq ha => ⟨_, rfl, ?_⟩, fun hs hf hq ha => ⟨_, rfl, ?_⟩, fun hs hw => ?_, fun h hst => ?_,
    fun hs hst => ?_, fun c g k hs hf hst hc hg hk => ⟨_, rfl, ?_, ?_⟩⟩
  · rw [exec_confirmEdge]
    have : s.confirmEdge j = (s, []) := by
      unfold State.confirmEdge
      rcases h with h | h <;> simp only [show (s.injector j).state = _ from h]
    rw [this, settle_nil]
  · rw [confirmEdge_stroke hs hf, settle_nil]
    rw [settleInjector_idle (by rw [State.modInjector_injector_self]; exact hq) (by rw [State.modInjector_injector_self]; exact ha)]
    exact evalCapOf_spec (State.modInjector_injector_self ..) rfl (otherInjectors_modInjector s j _) rfl (sameExcept_modInjector s j _)
  · rw [confirmEdge_stroke hs hf, settle_nil]
    have hfires := settleInjector_fires (s := s.modInjector j fun y =>
      { y with confirmed := y.confirmed + 1, misses := 0, confirmTimer := none, firing := false }) (j := j)
      (by rw [State.modInjector_injector_self]; exact hs) (by rw [State.modInjector_injector_self]; exact hq)
      (by rw [State.modInjector_injector_self]) (by rw [State.modInjector_injector_self]; exact ha)
    rw [modInjector_modInjector] at hfires
    rw [hfires]
    obtain ⟨h1, h2, h3, h4⟩ := evalCapOf_spec (s := s) (j := j) (y := { x with
        confirmed := x.confirmed + 1, misses := 0, confirmTimer := some 2000, queued := false }) (ps := [.dosing, .outputs])
      (v := State.emit (.stroke j) (s.modInjector j fun y => { y with
        confirmed := y.confirmed + 1, misses := 0, confirmTimer := some 2000, queued := false, firing := true }))
      (by rw [State.emit_injector, State.modInjector_injector_self]; exact congrArg (fun b => ({ x with
        confirmed := x.confirmed + 1, misses := 0, confirmTimer := some 2000, queued := false, firing := b } : Injector)) hf.symm)
      rfl (fun i hi => by rw [State.emit_injector]; exact s.modInjector_injector_ne hi _) rfl (by simp [SameExcept])
    obtain ⟨-, hframe⟩ := evalCapOf_frame (State.emit (.stroke j) (s.modInjector j fun y => { y with
        confirmed := y.confirmed + 1, misses := 0, confirmTimer := some 2000, queued := false, firing := true })) j
    obtain ⟨-, -, -, -, -, -, -, -, -, -, -, -, houtputs, -⟩ := hframe
    exact ⟨h1, houtputs.resolve_left (by simp), h2, h3, h4⟩
  · rw [exec_confirmEdge]
    have : s.confirmEdge j = ((s.modInjector j fun y => { y with confirmTimer := none, firing := false, misses := 0 }).setInjectorState
        j .idle, [.grant j]) := by
      unfold State.confirmEdge
      simp only [show (s.injector j).state = _ from hs]
    rw [this, settle_released (by exact hs) (by exact ⟨rfl, rfl⟩) hw]
  · rw [exec_confirmEdge, confirmEdge_stray h, stray_counts hst, settle_nil]
  · have hedge : s.confirmEdge j = (faultedAt j (s.modInjector j fun y => { y with strays := 5 }), []) := by
      rw [confirmEdge_stray (.inl hs), stray_fifth hst, faultEntry_free (by
        rw [State.modInjector_injector_self]
        exact fun h => by rw [show (s.injector j).state = .idle from hs] at h; cases h)]
    obtain ⟨h1, h2, h3, h4, h5, h6⟩ := faultedAt_spec (s := s.modInjector j fun y => { y with strays := 5 }) (j := j)
      (by rw [State.modInjector_injector_self, show (s.injector j).state = .idle from hs]; rfl)
    refine ⟨faultedAt j (s.modInjector j fun y => { y with strays := 5 }), ?_, ?_, ?_, h4, h3, fun i hi => ?_,
      same_trans (sameExcept_modInjector s j _) h5 (by decide) (by decide), h6⟩
    · rw [exec_confirmEdge, hedge, settle_nil]
    · rw [exec_faultStray ((nextStrayFaults_iff _).2 ⟨.inl hs, hst.ge⟩), hedge, settle_nil]
    · rw [h1, State.modInjector_injector_self]; rfl
    · rw [h2 i hi, State.modInjector_injector_ne _ hi]
  · rw [exec_faultStray ((nextStrayFaults_iff _).2 ⟨.inr ⟨hs, hf⟩, hst.ge⟩)]
  · rw [confirmEdge_stray (.inr ⟨hs, hf⟩), stray_fifth hst]
    exact claimFaults_faultEntry hs hc rfl ⟨rfl, rfl⟩ hg hk

/-- A miss at a claimed injector short of the third. -/
theorem confirmExpiry_miss {j : InjId} (hs : (s.injector j).state = .claimed) (ht : (s.injector j).confirmTimer ≠ none)
    (hm : (s.injector j).misses < 2) : s.confirmExpiry j = (((s.modInjector j fun y =>
      { y with firing := false, confirmTimer := none, misses := y.misses + 1 }).settleInjector j).evalCapOf j, []) := by
  unfold State.confirmExpiry
  simp only [Option.isNone_eq_false_iff.2 (Option.isSome_iff_ne_none.2 ht), hs, Bool.false_eq_true, if_false]
  rw [if_neg (by simp [Config.missLimit]; omega)]

theorem confirmExpiry_third {j : InjId} (hs : (s.injector j).state = .claimed) (ht : (s.injector j).confirmTimer ≠ none)
    (hm : (s.injector j).misses = 2) : s.confirmExpiry j = (s.modInjector j fun y =>
      { y with firing := false, confirmTimer := none, misses := 3 }).faultEntry j := by
  unfold State.confirmExpiry
  simp only [Option.isNone_eq_false_iff.2 (Option.isSome_iff_ne_none.2 ht), hs, Bool.false_eq_true, if_false]
  rw [if_pos (by simp [Config.missLimit, hm]),
    modInjector_congr (f' := fun y => { y with firing := false, confirmTimer := none, misses := 3 }) (by simp [hm])]

theorem confirmExpiry_releasing {j : InjId} (hs : (s.injector j).state = .releasing) (ht : (s.injector j).confirmTimer ≠ none) :
    s.confirmExpiry j =
      if (s.injector j).misses < 2 then ((s.modInjector j fun y =>
        { y with firing := false, confirmTimer := none, misses := y.misses + 1 }).setInjectorState j .idle, [.grant j])
      else ((s.modInjector j fun y => { y with firing := false, confirmTimer := none, misses := y.misses + 1 }).setInjectorState j
        .fault, []) := by
  unfold State.confirmExpiry
  simp only [Option.isNone_eq_false_iff.2 (Option.isSome_iff_ne_none.2 ht), hs, Bool.false_eq_true, if_false]
  by_cases hm : (s.injector j).misses < 2
  · rw [if_neg (by simp [Config.missLimit]; omega), if_pos hm]
  · rw [if_pos (by simp [Config.missLimit]; omega), if_neg hm]

/-- Settles O40. -/
theorem confirmTimerExpiry : Obligations.ConfirmTimerExpiry := by
  unfold Obligations.ConfirmTimerExpiry
  intro s j x
  refine ⟨fun ht => ?_, fun hs ht hm hq ha => ⟨_, rfl, ?_⟩, fun c g k hs ht hm hc hg hk => ⟨_, rfl, ?_, ?_⟩, fun hs ht hm => ?_,
    fun hs ht hm hw => ?_⟩
  · rw [exec_confirmExpiry]
    have : s.confirmExpiry j = (s, []) := by
      unfold State.confirmExpiry
      simp only [show (s.injector j).confirmTimer = none from ht, Option.isNone_none, if_true]
    rw [this, settle_nil]
  · rw [confirmExpiry_miss hs ht hm, settle_nil]
    rw [settleInjector_idle (by rw [State.modInjector_injector_self]; exact hq) (by rw [State.modInjector_injector_self]; exact ha)]
    exact evalCapOf_spec (State.modInjector_injector_self ..) rfl (otherInjectors_modInjector s j _) rfl (sameExcept_modInjector s j _)
  · rw [exec_faultMiss ((nextMissFaults_iff _).2 ⟨⟨Option.isSome_iff_ne_none.2 ht, .inl hs⟩, hm.ge⟩)]
  · rw [confirmExpiry_third hs ht hm]
    exact claimFaults_faultEntry hs hc rfl ⟨rfl, rfl⟩ hg hk
  · have hlevel : ((s.modInjector j fun y => { y with firing := false, confirmTimer := none, misses := y.misses + 1 }).injector
        j).state.level = false := by
      rw [State.modInjector_injector_self, show (s.injector j).state = .releasing from hs]; rfl
    obtain ⟨h1, h2, -⟩ := setInjectorState_fault hlevel
    have hexp := (confirmExpiry_releasing hs ht).trans (if_neg (by rw [show (s.injector j).misses = 2 from hm]; decide))
    refine ⟨_, rfl, ?_, ?_, fun i hi => ?_, ?_⟩
    · rw [exec_faultMiss ((nextMissFaults_iff _).2 ⟨⟨Option.isSome_iff_ne_none.2 ht, .inr hs⟩, hm.ge⟩)]
    · rw [hexp, settle_nil, setInjectorState_injector_self, State.modInjector_injector_self]
      exact congrArg (fun n => ({ x with state := .fault, misses := n, firing := false, confirmTimer := none } : Injector))
        (congrArg (· + 1) hm)
    · rw [hexp, settle_nil, setInjectorState_injector_ne hi, State.modInjector_injector_ne _ hi]
    · rw [hexp, settle_nil]
      exact same_trans (sameExcept_modInjector s j _) h2 (by decide) (by decide)
  · rw [exec_confirmExpiry, confirmExpiry_releasing hs ht, if_pos hm,
      settle_released (by exact hs) (by exact ⟨rfl, rfl⟩) hw]
    exact congrArg Host.Outcome.next (modInjector_congr rfl)

end Sys2Proof.Machine.Arming
end

section
/-! The end of acquisition: the note opened, the segment counted on it, LOW_START entered; or the serials spent (R64, R151, R152). -/

namespace Sys2Proof.Machine.Arming

variable {s t u v : State} {a : ArmId} {g : Segment} {o : Order} {l : Line} {p : Permit}

/-! ## The note -/

/-- The count of a segment on a note's lines (R152). -/
theorem count_eq (l : Line) (a : ArmId) (n : Note) : Note.count l a n = { n with lines := linesCounted l a n.lines } := by
  unfold Note.count Note.modLine linesCounted Note.line?
  by_cases h : ∃ x ∈ n.lines, x.compartment = l.compartment
  · have hany : (n.lines.any fun x => x.compartment == l.compartment) = true := by simpa [List.any_eq_true] using h
    have hfind : (n.lines.find? fun x => x.compartment == l.compartment).isNone = false := by
      rw [Option.isNone_eq_false_iff, List.find?_isSome]
      simpa using h
    simp [hany, hfind]
  · have hany : (n.lines.any fun x => x.compartment == l.compartment) = false := by
      rw [List.any_eq_false]
      intro x hx hc
      exact h ⟨x, hx, by simpa using hc⟩
    have hfind : (n.lines.find? fun x => x.compartment == l.compartment) = none := by
      rw [List.find?_eq_none]
      intro x hx hc
      exact h ⟨x, hx, by simpa using hc⟩
    have hmap : (n.lines.map fun x => if x.compartment = l.compartment then { x with segments := x.segments + 1, arm := a } else x)
        = n.lines := by
      conv_rhs => rw [← List.map_id n.lines]
      refine List.map_congr_left fun x hx => ?_
      rw [if_neg fun hc => h ⟨x, hx, hc⟩]; rfl
    simp [hany, hfind, hmap, freshNoteLine]

/-- An update of the note in an order's slot: an OPEN one alone changes. -/
theorem modNote_spec {no : Nat} {k : SlotId} (hk : s.noteSlot? no = some k) (f : Note → Note) :
    (∀ n, s.slot k = .opened n → (s.modNote no f).slot k = .opened (f n))
      ∧ (∀ i, i ≠ k → (s.modNote no f).slot i = s.slot i) ∧ (s.modNote no f).notes.sealedList = s.notes.sealedList
      ∧ (s.modNote no f).notes.nextSerial = s.notes.nextSerial ∧ SameExcept [.notes] s (s.modNote no f) := by
  refine ⟨fun n hn => ?_, fun i hi => ?_, ?_, ?_, modNote_frame s no f⟩ <;> unfold State.modNote <;> rw [hk] <;> dsimp only
  · rw [hn]; simp
  · split
    · exact s.setSlot_slot_ne hi _
    all_goals rfl
  · split <;> rfl
  · split <;> rfl

/-- The note that the opening of a RESERVED one makes (R151). -/
def openedNote (s : State) (n : Note) (serial : Nat) : Note :=
  let carrier := ((s.permit? n.card).map (·.carrier)).getD 0
  { n with opening := some ⟨serial, carrier, s.clock.day, s.clock.minute, s.settings.sealCount, s.settings.mode⟩ }

/-- The opening of an order's note: a RESERVED one takes the next serial, any other stays. -/
theorem openNote_spec {no : Nat} {k : SlotId} (hk : s.noteSlot? no = some k) :
    (∀ n serial, s.slot k = .reserved n → s.notes.nextSerial = some serial →
        (s.openNote no).slot k = .opened (openedNote s n serial) ∧ (s.openNote no).notes.nextSerial = nextAfter serial)
      ∧ (∀ n, s.slot k = .opened n → s.openNote no = s)
      ∧ (∀ i, i ≠ k → (s.openNote no).slot i = s.slot i) ∧ (s.openNote no).notes.sealedList = s.notes.sealedList
      ∧ SameExcept [.notes] s (s.openNote no) := by
  refine ⟨fun n serial hn hs => ?_, fun n hn => ?_, fun i hi => ?_, ?_, ?_⟩ <;> unfold State.openNote <;> rw [hk] <;> dsimp only
  · rw [hn, hs]
    dsimp only
    exact ⟨s.setSlot_slot_self k _, rfl⟩
  · rw [hn]
  · split
    · exact s.setSlot_slot_ne hi _
    · rfl
  · split <;> rfl
  · split
    · simp [SameExcept]
    · exact same_refl _ s

theorem openingSpent_iff {no : Nat} {k : SlotId} (hk : s.noteSlot? no = some k) :
    s.openingSpent no = true ↔ (∃ n, s.slot k = .reserved n) ∧ s.notes.nextSerial = none := by
  unfold State.openingSpent
  rw [hk]
  dsimp only
  cases hs : s.slot k <;> simp

/-! ## The end of acquisition -/

theorem noteSlot?_eq {k : SlotId} {no : Nat} (ho : s.order? no = some o) (hk : o.noteSlot = some k) : s.noteSlot? no = some k := by
  rw [State.noteSlot?, ho]; exact hk

/-- Acquisition complete without the serials spent: the segment flows, counted on its line and its note. -/
theorem reachesLowStart {k : SlotId} (hg : v.seg? a = some g) (ho : v.order? g.orderNo = some o) (hl : o.line? g.compartment = some l)
    (hk : o.noteSlot = some k) : ReachesLowStart a g o l k v ((v.openNote g.orderNo).countSegment a g l) := by
  have hno : g.orderNo = o.orderNo := (order?_orderNo ho).symm
  have hcomp : g.compartment = l.compartment := (line?_compartment hl).symm
  obtain ⟨hres, hopen, hslots, hsealed, hsame⟩ := openNote_spec (noteSlot?_eq ho hk)
  generalize hu : v.openNote g.orderNo = u at *
  have hopenSame := hsame
  obtain ⟨-, horders, -, -, harms, -⟩ := hsame
  have harm : u.arm = v.arm := arm_of_arms (harms.resolve_left (by simp))
  have horder : u.order? = v.order? := order?_of_orders (horders.resolve_left (by simp))
  have hk' : (u.modLine g.orderNo g.compartment fun y => { y with segmentsUsed := y.segmentsUsed + 1 }).noteSlot? g.orderNo = some k :=
    noteSlot?_eq (o := o.modLine g.compartment fun y => { y with segmentsUsed := y.segmentsUsed + 1 })
      (by rw [order?_modLine_self, horder, ho]; rfl) hk
  obtain ⟨hcount, hslots', hsealed', hserial', hsame'⟩ := modNote_spec hk' (Note.count l a)
  have hcs : u.countSegment a g l = ((((u.modLine g.orderNo g.compartment fun y => { y with segmentsUsed := y.segmentsUsed + 1 }).modNote
      g.orderNo (Note.count l a)).modSeg a fun x => { x with counted := true, phase := .lowStart, zeroRun := 0, periodTimer := some 250 }).modArm
      a fun x => { x with counterA := 0, counterB := 0 }) := rfl
  generalize hw : (u.modLine g.orderNo g.compartment fun y => { y with segmentsUsed := y.segmentsUsed + 1 }).modNote g.orderNo
    (Note.count l a) = w at *
  have hwsame : SameExcept [.orders, .notes] u w :=
    same_trans (by simp [SameExcept] : SameExcept [.orders] u _) hsame' (by decide) (by decide)
  have hwarm : w.arm = v.arm := by
    obtain ⟨-, -, -, -, ha, -⟩ := hwsame
    rw [arm_of_arms (ha.resolve_left (by simp)), harm]
  have hworders : w.orders = (u.modLine g.orderNo g.compartment fun y => { y with segmentsUsed := y.segmentsUsed + 1 }).orders := by
    obtain ⟨-, ho', -⟩ := hsame'
    exact ho'.resolve_left (by simp)
  have hwseg : w.seg? a = some g := by rw [State.seg?, hwarm]; exact hg
  rw [hcs]
  refine ⟨?_, ?_, fun n serial q hn hs hq => ⟨?_, ?_⟩, fun n hn => ⟨?_, ?_⟩, fun i hi => ?_, ?_, fun c hc => ?_, fun n hn => ?_, ?_⟩
  · rw [State.modArm_arm_self, modSeg_arm_of_seg? hwseg, hwarm]
  · rw [State.modArm_order?, State.modSeg_order?, order?_of_orders hworders, ← hno, order?_modLine_self, horder, ho, Option.map_some,
      Order.modLine, hcomp]
    simp [hno]
  · have h1 := (hres n serial hn hs).1
    rw [State.modArm_slot, State.modSeg_slot, hcount _ h1, count_eq]
    simp [openedNote, hq]
  · rw [State.modArm_notes, State.modSeg_notes, hserial', State.modLine_notes, (hres n serial hn hs).2]
    rfl
  · have huv := hopen n hn
    rw [State.modArm_slot, State.modSeg_slot, hcount n (by rw [State.modLine_slot, huv]; exact hn), count_eq]
  · rw [State.modArm_notes, State.modSeg_notes, hserial', State.modLine_notes, hopen n hn]
  · rw [State.modArm_slot, State.modSeg_slot, hslots' i hi, State.modLine_slot, hslots i hi]
  · rw [State.modArm_notes, State.modSeg_notes, hsealed', State.modLine_notes, hsealed]
  · rw [State.modArm_arm_ne _ hc, modSeg_arm_ne hc, hwarm]
  · rw [State.modArm_order?, State.modSeg_order?, order?_of_orders hworders, order?_modLine_ne _ (hno ▸ hn), horder]
  · exact same_trans (same_trans hopenSame hwsame (rs := [.orders, .notes]) (by decide) (by decide))
      (same_trans (sameExcept_modSeg w a _) (sameExcept_modArm _ a _) (rs := [.arms]) (by decide) (by decide)) (by decide) (by decide)

/-- The part of an event that completes an acquisition. -/
theorem completes_complete {k : SlotId} (h : Loads a g o l p v) (hk : o.noteSlot = some k) {n : Nat} (hn : 13 ≤ n) :
    Completes a g o l k v (runJobs n [.complete a] v) := by
  obtain ⟨n, rfl⟩ : ∃ n', n = n' + 1 := ⟨n - 1, by omega⟩
  have hline : v.segLine? g = some l := by rw [State.segLine?, State.line?, h.order]; exact h.line
  have hspent := openingSpent_iff (noteSlot?_eq h.order hk)
  rw [runJobs_cons, doJob, State.completeAcquisition, h.seg]
  dsimp only
  rw [hline]
  dsimp only
  refine ⟨fun hns => ?_, fun hs hno => ?_⟩
  · rw [if_neg (mt hspent.1 hns)]
    simp only [List.append_nil, runJobs_nil]
    exact reachesLowStart h.seg h.order h.line hk
  · rw [if_pos (hspent.2 hs)]
    exact endsUncounted_endSegment h hno ⟨by simp, by simp, by simp⟩ (by omega)

end Sys2Proof.Machine.Arming
end

section
/-! Lists of numbers in a body: written one after the other and read back (R185). -/

namespace Sys2Proof.Machine.Arming

/-- 1-byte fields behind other bytes, read back. -/
theorem u8s_flatMap (x y : List Byte) (ns : List Nat) (h : ∀ n ∈ ns, n ≤ 255) :
    u8s (x ++ (ns.flatMap b1 ++ y)) x.length ns.length = ns := by
  induction ns generalizing x with
  | nil => rfl
  | cons n ns ih =>
    have htail := ih (x ++ b1 n) fun m hm => h m (by simp [hm])
    have hshift : x ++ ((n :: ns).flatMap b1 ++ y) = (x ++ b1 n) ++ (ns.flatMap b1 ++ y) := by simp
    rw [hshift, u8s, List.length_cons, List.range_succ_eq_map, List.map_cons, List.map_map]
    congr 1
    · rw [u8_append_left (by simp), u8_append_right (by simp)]
      simpa using u8_b1 (h n (by simp))
    · refine Eq.trans ?_ htail
      rw [u8s]
      refine List.map_congr_left fun k _ => ?_
      simp only [Function.comp, List.length_append, b1_length]
      exact congrArg (u8 _) (by omega)

theorem flatMap_b1_length (ns : List Nat) : (ns.flatMap b1).length = ns.length := by
  induction ns with
  | nil => rfl
  | cons n ns ih => simp [ih, Nat.add_comm]

theorem flatMap_b2_length (ns : List Nat) : (ns.flatMap b2).length = 2 * ns.length := by
  induction ns with
  | nil => rfl
  | cons n ns ih => simp [ih]; omega

/-- 2-byte fields behind other bytes, read back. -/
theorem u16s_flatMap (x y : List Byte) (ns : List Nat) (h : ∀ n ∈ ns, n ≤ 65535) :
    u16s (x ++ (ns.flatMap b2 ++ y)) x.length ns.length = ns := by
  induction ns generalizing x with
  | nil => rfl
  | cons n ns ih =>
    have htail := ih (x ++ b2 n) fun m hm => h m (by simp [hm])
    have hshift : x ++ ((n :: ns).flatMap b2 ++ y) = (x ++ b2 n) ++ (ns.flatMap b2 ++ y) := by simp
    rw [hshift, u16s, List.length_cons, List.range_succ_eq_map, List.map_cons, List.map_map]
    refine congrArg₂ List.cons ?_ ?_
    · rw [u16_append_left (by simp), u16_append_right (by omega), show x.length + 2 * 0 - x.length = 0 by omega]
      exact u16_b2 (h n (by simp))
    · refine Eq.trans ?_ htail
      rw [u16s]
      refine List.map_congr_left fun k _ => ?_
      simp only [Function.comp, List.length_append, b2_length]
      exact congrArg (u16 _) (by omega)

/-- A field in front of a rest, and the rest behind it. -/
theorem u8_one_b1_append {n m : Nat} (h : m ≤ 255) (y : List Byte) : u8 (b1 n ++ (b1 m ++ y)) 1 = m := by
  rw [u8_succ_b1_append, u8_zero_b1_append, Nat.mod_eq_of_lt (by omega)]

theorem u8_two_b1_append {n m k : Nat} (h : k ≤ 255) (y : List Byte) : u8 (b1 n ++ (b1 m ++ (b1 k ++ y))) 2 = k := by
  rw [u8_succ_b1_append, u8_one_b1_append h]

theorem u8_last {x : List Byte} {n i : Nat} (h : n ≤ 255) (hi : x.length = i) (y : List Byte) : u8 (x ++ (b1 n ++ y)) i = n := by
  rw [u8_append_right (by omega), hi, Nat.sub_self, u8_zero_b1_append, Nat.mod_eq_of_lt (by omega)]

end Sys2Proof.Machine.Arming
end

section
/-! The grant of a free injector, and the commands that free one (R63, R64, R126, R128, R131, R133, R142). -/

namespace Sys2Proof.Machine.Arming

variable {s t u v : State}

/-! ## Claims in component order -/

/-- A claim joins the claims in component order. -/
theorem insertClaim_sorted (c : Claim) (ds : List Claim) (h : (ds.map (·.index)).Pairwise (· < ·)) (hc : c.index ∉ ds.map (·.index)) :
    insertClaim c ds = ds.filter (fun d => d.index < c.index) ++ c :: ds.filter (fun d => c.index < d.index) := by
  induction ds with
  | nil => rfl
  | cons d ds ih =>
    obtain ⟨hd, hds⟩ := List.pairwise_cons.1 h
    simp only [List.map_cons, List.mem_cons, not_or] at hc
    unfold insertClaim
    split
    · next hlt =>
      have hall : ∀ e ∈ ds, d.index < e.index := fun e he => hd _ (List.mem_map.2 ⟨e, he, rfl⟩)
      have h1 : ds.filter (fun e => e.index < c.index) = [] := by
        rw [List.filter_eq_nil_iff]
        intro e he
        have := hall e he
        simp; omega
      have h2 : ds.filter (fun e => c.index < e.index) = ds := by
        rw [List.filter_eq_self]
        intro e he
        have := hall e he
        simp; omega
      rw [List.filter_cons_of_neg (by simp; omega), List.filter_cons_of_pos (by simpa using hlt), h1, h2, List.nil_append]
    · next hnlt =>
      have hlt : d.index < c.index := by omega
      rw [ih hds hc.2, List.filter_cons_of_pos (by simpa using hlt), List.filter_cons_of_neg (by simp; omega), List.cons_append]

theorem insertClaim_perm (c : Claim) (ds : List Claim) : (insertClaim c ds).Perm (c :: ds) := by
  induction ds with
  | nil => exact .refl _
  | cons d ds ih =>
    unfold insertClaim
    split
    · exact .refl _
    · exact (ih.cons d).trans (.swap c d ds)

/-- Every mandatory component of a snapshot has a claim. -/
theorem granted_iff (g : Segment) (i : Nat) (cs : List Component) : g.granted i cs = true ↔
    ∀ n d, cs[n]? = some d → d.mandatory = true → g.claims.any (fun e => e.index == n + i) = true := by
  have hsome : ∀ m, (g.claims? m).isSome = g.claims.any fun e => e.index == m := fun m => by
    rw [Segment.claims?, Bool.eq_iff_iff, List.find?_isSome, List.any_eq_true]
  induction cs generalizing i with
  | nil => simp [Segment.granted]
  | cons c cs ih =>
    rw [Segment.granted, Bool.and_eq_true, hsome]
    constructor
    · rintro ⟨h0, h⟩ n d hn hm
      cases n with
      | zero =>
        simp only [List.getElem?_cons_zero, Option.some.injEq] at hn
        subst hn
        rw [hm] at h0
        simpa using h0
      | succ n =>
        rw [show n + 1 + i = n + (i + 1) by omega]
        exact (ih (i + 1)).1 h n d (by simpa using hn) hm
    · intro h
      refine ⟨?_, (ih (i + 1)).2 fun n d hn hm => ?_⟩
      · cases hm : c.mandatory with
        | false => rfl
        | true => simpa [hm] using h 0 c rfl hm
      · rw [show n + (i + 1) = n + 1 + i by omega]
        exact h (n + 1) d (by simpa using hn) hm

/-- An update of an arm's segment is what it makes of that segment. -/
theorem modSeg_congr {a : ArmId} {g : Segment} (hg : s.seg? a = some g) {f f' : Segment → Segment} (h : f g = f' g) :
    s.modSeg a f = s.modSeg a f' := by
  have harm : (s.arm a).modSeg f = (s.arm a).modSeg f' := by
    rw [modSeg_of_status (status_of_seg? hg), modSeg_of_status (status_of_seg? hg), h]
  unfold State.modSeg State.modArm
  rw [show Arm.modSeg f s.arms[a] = Arm.modSeg f' s.arms[a] from harm]

/-! ## The start of a claim (R133) -/

/-- An injector claimed for a component. -/
def claimedBy (c : Claimant) (x : Injector) : Injector :=
  { x with state := .claimed, claimant := some c, accNl := 0, queued := false, firing := false, confirmed := 0 }

/-- A claim of an unfaulted injector starts: its record and the segment's claims. -/
theorem startClaim_eq {j : InjId} (h : (s.injector j).state.level = false) (a : ArmId) (index : Nat) (c : Component) :
    s.startClaim a j index c = (s.modInjector j (claimedBy ⟨a, index⟩)).modSeg a fun g =>
      { g with claims := insertClaim ⟨j, index, c, 0, false⟩ g.claims } := by
  unfold State.startClaim
  rw [setInjectorState_quiet (by rw [State.modInjector_injector_self, Injector.claimFor, h]; rfl), modInjector_modInjector]
  rfl

/-! ## The grant (R131) -/

theorem queue_setQueue_self {cls : Nat} (h1 : 1 ≤ cls) (h2 : cls ≤ 15) (q : List Waiter) (s : State) :
    (s.setQueue cls q).dosing.queue cls = q := by
  have hlt : cls - 1 < s.dosing.queues.toList.length := by simp; omega
  simp only [Dosing.queue, State.setQueue, Vector.toList_setIfInBounds, List.getD_eq_getElem?_getD, List.getElem?_set]
  rw [if_pos trivial, if_pos hlt]
  rfl

theorem queue_setQueue_ne {cls n : Nat} (h1 : 1 ≤ cls) (hn : 1 ≤ n) (hne : n ≠ cls) (q : List Waiter) (s : State) :
    (s.setQueue cls q).dosing.queue n = s.dosing.queue n := by
  simp only [Dosing.queue, State.setQueue, Vector.toList_setIfInBounds, List.getD_eq_getElem?_getD, List.getElem?_set]
  rw [if_neg (by omega)]

/-- The waiter that a grant serves: the oldest of its class in the injector's reach, for a component of its line's snapshot. -/
structure Serves (j : InjId) (before after : List Waiter) (w : Waiter) (g : Segment) (l : Line) (cs : List Component) (c : Component)
    (s : State) : Prop where
  idle : (s.injector j).state = .idle
  low : 1 ≤ (s.injector j).cls
  high : (s.injector j).cls ≤ 15
  queue : s.dosing.queue (s.injector j).cls = before ++ w :: after
  older : ∀ v ∈ before, v.arm ∉ (s.injector j).reach
  younger : ∀ v ∈ after, v.arm ≠ w.arm
  reach : w.arm ∈ (s.injector j).reach
  seg : s.seg? w.arm = some g
  line : s.segLine? g = some l
  snapshot : l.snapshot = some cs
  component : cs[w.index - 1]? = some c

section
variable {j : InjId} {before after : List Waiter} {w : Waiter} {g : Segment} {l : Line} {cs : List Component} {c : Component}

/-- The segment that a grant makes of the waiter's: its claim stands in its component's place, and with the last mandatory one the
injector wait stops. -/
def grantedSegment (j : InjId) (w : Waiter) (c : Component) (cs : List Component) (g : Segment) : Segment :=
  let h := { g with claims := insertClaim ⟨j, w.index, c, 0, false⟩ g.claims }
  if h.granted 1 cs then { h with injectorTimer := none } else h

/-- What a grant does. -/
theorem grant_eq (h : Serves j before after w g l cs c s) :
    s.grant j = (((s.setQueue (s.injector j).cls (before ++ after)).modInjector j (claimedBy ⟨w.arm, w.index⟩)).modSeg w.arm
        (grantedSegment j w c cs),
      if ({ g with claims := insertClaim ⟨j, w.index, c, 0, false⟩ g.claims } : Segment).granted 1 cs then [.complete w.arm]
      else []) := by
  have hfind : (s.dosing.queue (s.injector j).cls).find? (fun v => (s.injector j).reach.contains v.arm) = some w := by
    rw [h.queue, List.find?_append, List.find?_eq_none.2 (by simpa using h.older)]
    simp [h.reach]
  have hfilter : (s.dosing.queue (s.injector j).cls).filter (fun v => v.arm != w.arm) = before ++ after := by
    rw [h.queue, List.filter_append, List.filter_cons_of_neg (by simp)]
    rw [List.filter_eq_self.2, List.filter_eq_self.2]
    · simpa using h.younger
    · intro v hv
      have := h.older v hv
      simp only [bne_iff_ne, ne_eq]
      exact fun hva => this (hva ▸ h.reach)
  have hcomp : (s.setQueue (s.injector j).cls (before ++ after)).waiterComponent? w = some c := by
    have hl : (s.setQueue (s.injector j).cls (before ++ after)).segLine? g = some l := h.line
    rw [State.waiterComponent?, State.setQueue_seg?, h.seg, Option.bind_some, hl, Option.bind_some, h.snapshot]
    exact h.component
  have hstart := startClaim_eq (s := s.setQueue (s.injector j).cls (before ++ after)) (j := j)
    (by rw [show (s.setQueue (s.injector j).cls (before ++ after)).injector j = s.injector j from rfl, h.idle]; rfl) w.arm w.index c
  unfold State.grant
  dsimp only
  rw [if_neg (by simp [h.idle]), hfind]
  dsimp only
  rw [hfilter, hcomp]
  dsimp only
  rw [hstart, seg?_modSeg_self, State.modInjector_seg?, State.setQueue_seg?, h.seg]
  have hline : (((s.setQueue (s.injector j).cls (before ++ after)).modInjector j (claimedBy ⟨w.arm, w.index⟩)).modSeg w.arm fun g =>
      { g with claims := insertClaim ⟨j, w.index, c, 0, false⟩ g.claims }).segLine?
        { g with claims := insertClaim ⟨j, w.index, c, 0, false⟩ g.claims } = some l := h.line
  simp only [Option.map_some, hline, Option.bind_some, h.snapshot, Option.getD_some]
  have hseg : ((s.setQueue (s.injector j).cls (before ++ after)).modInjector j (claimedBy ⟨w.arm, w.index⟩)).seg? w.arm = some g := h.seg
  by_cases hall : ({ g with claims := insertClaim ⟨j, w.index, c, 0, false⟩ g.claims } : Segment).granted 1 cs = true
  · rw [if_pos hall, if_pos hall, modSeg_modSeg]
    exact congrArg (·, _) (modSeg_congr hseg (if_pos hall).symm)
  · rw [if_neg hall, if_neg hall]
    exact congrArg (·, _) (modSeg_congr hseg (if_neg hall).symm)

end

end Sys2Proof.Machine.Arming
end

section
/-! The grant of a free injector, and the commands that free one (concluded). -/

namespace Sys2Proof.Machine.Arming

variable {s t u v : State} {j : InjId} {before after : List Waiter} {w : Waiter} {g : Segment} {o : Order} {l : Line} {p : Permit}
  {k : SlotId} {cs : List Component} {c : Component}

/-- What a grant leaves. -/
theorem grant_spec (h : Serves j before after w g l cs c s) :
    (s.grant j).1.injector j = claimedBy ⟨w.arm, w.index⟩ (s.injector j)
      ∧ (s.grant j).1.dosing.queue (s.injector j).cls = before ++ after
      ∧ (∀ n, 1 ≤ n → n ≠ (s.injector j).cls → (s.grant j).1.dosing.queue n = s.dosing.queue n)
      ∧ (s.grant j).1.dosing.recipes = s.dosing.recipes
      ∧ (s.grant j).1.arm w.arm = { s.arm w.arm with status := .segment (grantedSegment j w c cs g) }
      ∧ OtherArms w.arm s (s.grant j).1 ∧ OtherInjectors j s (s.grant j).1 ∧ SameExcept [.arms, .dosing] s (s.grant j).1 := by
  rw [grant_eq h]
  refine ⟨?_, ?_, fun n hn hne => ?_, rfl, ?_, fun a ha => ?_, fun i hi => ?_, ?_⟩
  · rw [State.modSeg_injector, State.modInjector_injector_self]; rfl
  · exact queue_setQueue_self h.low h.high _ s
  · exact queue_setQueue_ne h.low hn hne _ s
  · exact modSeg_arm_of_seg? (by exact h.seg) _
  · rw [modSeg_arm_ne ha]; rfl
  · rw [State.modSeg_injector, State.modInjector_injector_ne _ hi]; rfl
  · simp [SameExcept]

/-- A command that leaves an injector free, with the grant behind it: the waiter's claim starts, and with the last mandatory component
granted its segment goes on. -/
theorem granted_settle {y : Injector} (hy : s.injector j = y) (hstate : y.state = .idle) (h1 : 1 ≤ y.cls) (h15 : y.cls ≤ 15)
    (hothers : OtherInjectors j u s) (hqueues : s.dosing.queues = u.dosing.queues) (hrecipes : s.dosing.recipes = u.dosing.recipes)
    (hsame : SameExcept [.dosing, .att] u s) (hq : u.dosing.queue y.cls = before ++ w :: after)
    (hbefore : ∀ v ∈ before, v.arm ∉ y.reach) (hafter : ∀ v ∈ after, v.arm ≠ w.arm) (hreach : w.arm ∈ y.reach)
    (hun : Uncounted w.arm g o l p u) (hload : (u.bay g.bay).state = .loading) (hk : o.noteSlot = some k) (hsnap : l.snapshot = some cs)
    (hcomp : cs[w.index - 1]? = some c) (hsorted : (g.claims.map (·.index)).Pairwise (· < ·))
    (hnew : w.index ∉ g.claims.map (·.index)) : Granted j y before after w g o l k cs c u (settle (s, [.grant j])) := by
  obtain ⟨hseg, hcounted, hnet, hlen, -, hbound, horder, hline, hpermit, hused⟩ := hun
  have hframe := hsame
  obtain ⟨hpermits, horders, -, hbays, harms, -⟩ := hframe
  have harm := arm_of_arms (harms.resolve_left (by simp))
  have horder' : s.order? g.orderNo = some o := by rw [order?_of_orders (horders.resolve_left (by simp))]; exact horder
  have hserves : Serves j before after w g l cs c s := by
    refine ⟨by rw [hy]; exact hstate, by rw [hy]; exact h1, by rw [hy]; exact h15, ?_, by rw [hy]; exact hbefore, hafter,
      by rw [hy]; exact hreach, by rw [State.seg?, harm]; exact hseg, ?_, hsnap, hcomp⟩
    · rw [hy, queue_of_queues hqueues]; exact hq
    · rw [State.segLine?, State.line?, horder']; exact hline
  obtain ⟨hinj, hqueue, hqueue', hrec, harm', hother', hothers', hsame'⟩ := grant_spec hserves
  have hclaims : (insertClaim ⟨j, w.index, c, 0, false⟩ g.claims) = g.claims.filter (fun d => d.index < w.index)
      ++ ⟨j, w.index, c, 0, false⟩ :: g.claims.filter (fun d => w.index < d.index) := insertClaim_sorted _ _ hsorted hnew
  have hall := granted_iff ({ g with claims := insertClaim ⟨j, w.index, c, 0, false⟩ g.claims } : Segment) 1 cs
  have hgranted : grantedSegment j w c cs g = if ({ g with claims := insertClaim ⟨j, w.index, c, 0, false⟩ g.claims } : Segment).granted 1 cs
      then { g with claims := insertClaim ⟨j, w.index, c, 0, false⟩ g.claims, injectorTimer := none }
      else { g with claims := insertClaim ⟨j, w.index, c, 0, false⟩ g.claims } := rfl
  have hgc : (grantedSegment j w c cs g).claims = insertClaim ⟨j, w.index, c, 0, false⟩ g.claims := by
    rw [hgranted]; split <;> rfl
  have hrun : settle (s, [.grant j]) = runJobs 999 (if ({ g with claims := insertClaim ⟨j, w.index, c, 0, false⟩ g.claims } :
      Segment).granted 1 cs then [.complete w.arm] else []) (s.grant j).1 := by
    rw [settle_cons, doJob, List.append_nil]
    conv_lhs => rw [grant_eq hserves]
    rw [grant_eq hserves]
  rw [hrun]
  have hsameAll : SameExcept [.arms, .dosing, .att] u (s.grant j).1 := same_trans hsame hsame' (by decide) (by decide)
  refine ⟨(s.grant j).1, grantedSegment j w c cs g, ?_, ?_, fun n hn hne => ?_, hrec.trans hrecipes, ?_, fun a ha => ?_, fun i hi => ?_,
    hsameAll, hgc.trans hclaims, fun hm => ?_, fun hm => ?_⟩
  · rw [hinj, hy]; rfl
  · rw [← hy]; exact hqueue
  · rw [hqueue' n hn (by rw [hy]; exact hne), queue_of_queues hqueues]
  · rw [harm', harm]
  · rw [hother' a ha, harm]
  · rw [hothers' i hi, hothers i hi]
  · rw [hgc] at hm
    rw [if_pos (hall.2 hm)]
    rw [if_pos (hall.2 hm)] at hgranted
    refine ⟨hgranted.trans (by rw [hgc]), completes_complete (p := p) ⟨by rw [State.seg?, harm']; rfl, ?_, ?_, ?_, ?_, ?_, ?_, ?_, ?_, hused⟩
      hk (by decide)⟩
    all_goals obtain ⟨hpermits', horders', -, hbays', -⟩ := hsameAll
    · rw [hgranted]; exact hcounted
    · rw [hgranted]; exact hnet
    · rw [hgc, (insertClaim_perm _ _).length_eq]
      simp only [List.length_cons]
      omega
    · rw [hgranted, bay_of_bays (hbays'.resolve_left (by simp))]; exact hbound
    · rw [hgranted, bay_of_bays (hbays'.resolve_left (by simp))]; exact hload
    · rw [hgranted, order?_of_orders (horders'.resolve_left (by simp))]; exact horder
    · rw [hgranted]; exact hline
    · rw [permit?_of_permits (hpermits'.resolve_left (by simp))]; exact hpermit
  · rw [hgc] at hm
    rw [if_neg (mt hall.1 hm)] at hgranted ⊢
    exact ⟨hgranted.trans (by rw [hgc]), runJobs_nil 999 _⟩

/-- A change of injector state leaves the queues and the recipes. -/
theorem setInjectorState_queues (s : State) (j : InjId) (st : InjectorState) :
    (s.setInjectorState j st).dosing.queues = s.dosing.queues ∧ (s.setInjectorState j st).dosing.recipes = s.dosing.recipes := by
  rw [State.setInjectorState, State.levelChange_dosing]
  exact ⟨rfl, rfl⟩

/-! ## The commands that free an injector -/

theorem injectorClear_owner {j : InjId} (hf : (s.injector j).state = .fault) (hc : (s.injector j).claimant = none) :
    owner 0x5A (b1 j.val) s
      = ((s.modInjector j fun x => { x with misses := 0, strays := 0 }).setInjectorState j .idle, .ok [], [.grant j]) := by
  have hj : u8 (b1 j.val) 0 = j.val := u8_b1 (by omega)
  show injectorClear (b1 j.val) s = _
  unfold injectorClear
  rw [if_neg (by simp), hj, injectorOf_val]
  dsimp only
  rw [if_neg (by simp [hf]), if_neg (by simp [hc])]

/-- The body of an INJECTOR SET into service. -/
theorem injectorSet_owner {j : InjId} {cls : Nat} {arms : List ArmId} (h1 : 1 ≤ cls) (h15 : cls ≤ 15) (hne : arms ≠ [])
    (hlen : arms.length ≤ 8) (hnodup : arms.Nodup) (hs : (s.injector j).state = .idle ∨ (s.injector j).state = .outOfService) :
    owner 0x58 (b1 j.val ++ b1 cls ++ b1 arms.length ++ arms.flatMap (fun a => b1 a.val) ++ b1 1) s
      = ((s.modInjector j fun x => { x with cls := cls, reach := arms, misses := 0, strays := 0 }).setInjectorState j .idle, .ok [],
        [.grant j]) := by
  have hflat : arms.flatMap (fun a => b1 a.val) = (arms.map (·.val)).flatMap b1 := by rw [List.flatMap_map]
  generalize hb : b1 j.val ++ b1 cls ++ b1 arms.length ++ arms.flatMap (fun a => b1 a.val) ++ b1 1 = b
  have hbody : b = b1 j.val ++ (b1 cls ++ (b1 arms.length ++ ((arms.map (·.val)).flatMap b1 ++ (b1 1 ++ [])))) := by
    rw [← hb, hflat]; simp
  have hb0 : u8 b 0 = j.val := by rw [hbody, u8_zero_b1_append, Nat.mod_eq_of_lt (by omega)]
  have hb1 : u8 b 1 = cls := by rw [hbody, u8_one_b1_append (by omega)]
  have hb2 : u8 b 2 = arms.length := by rw [hbody, u8_two_b1_append (by omega)]
  have hbs : u8s b 3 arms.length = arms.map (·.val) := by
    have := u8s_flatMap (b1 j.val ++ b1 cls ++ b1 arms.length) (b1 1 ++ []) (arms.map (·.val)) (by simp; omega)
    simpa [hbody] using this
  have hbl : u8 b (3 + arms.length) = 1 := by
    have := u8_last (x := b1 j.val ++ b1 cls ++ b1 arms.length ++ (arms.map (·.val)).flatMap b1) (n := 1) (i := 3 + arms.length)
      (by omega) (by simp only [List.length_append, b1_length, flatMap_b1_length, List.length_map]) []
    simpa [hbody] using this
  have hlenb : b.length = 4 + arms.length := by
    rw [hbody]
    simp only [List.length_append, b1_length, flatMap_b1_length, List.length_map, List.length_nil]
    omega
  have hpos : 0 < arms.length := List.length_pos_iff.2 hne
  have hvalid : injectorSetValid b = true := by
    have hnd : (arms.map (·.val)).Nodup := hnodup.map Fin.val_injective
    simp only [injectorSetValid, hb0, hb1, hb2, hbs, hbl]
    simp [h1, h15, hlen, hnd]
    exact ⟨⟨by omega, by omega⟩, fun a _ => by omega⟩
  show injectorSet b s = _
  unfold injectorSet
  have hheld : (s.injector j).held = false := by rcases hs with hs | hs <;> simp [Injector.held, hs]
  have hservice : serviceState false (s.injector j).state = .idle := by rcases hs with hs | hs <;> simp [serviceState, hs]
  rw [if_neg (by rw [hb2, hlenb]; simp; omega), if_neg (by simp [hvalid]), hb0, injectorOf_val]
  dsimp only
  rw [hheld, hb2, hbl, hb1, hbs]
  have hmap : (arms.map (·.val)).filterMap armOf = arms := by
    rw [List.filterMap_map]
    simp
  simp [hservice, hmap]

/-- Settles O41. -/
theorem grantServesOldestInReach : Obligations.GrantServesOldestInReach := by
  unfold Obligations.GrantServesOldestInReach
  refine ⟨fun s j before after w g l cs c hidle h1 h15 hq hbefore hafter hreach hseg hline hsnap hcomp => ?_,
    fun s j y before after w g o l p k cs c h1 h15 hq hbefore hafter hreach hun hload hk hsnap _ hcomp hsorted hnew => ?_⟩
  · obtain ⟨hinj, hqueue, -, -, -, hother, hothers, hsame⟩ :=
      grant_spec ⟨hidle, h1, h15, hq, hbefore, hafter, hreach, hseg, hline, hsnap, hcomp⟩
    rw [hinj]
    exact ⟨rfl, rfl, rfl, rfl, hqueue, hothers, hother, hsame⟩
  · intro x granted free
    have hgrant : ∀ f : Injector → Injector, f x = y → y.state = .idle →
        granted (settle (s.modInjector j f, [.grant j])) := fun f hf hidle =>
      granted_settle (by rw [State.modInjector_injector_self]; exact hf) hidle h1 h15 (otherInjectors_modInjector s j f) rfl rfl
        (same_mono (sameExcept_modInjector s j f) (by decide)) hq hbefore hafter hreach hun hload hk hsnap hcomp hsorted hnew
    refine ⟨fun hs hy => ⟨_, rfl, ?_⟩, fun hs ht hm hy => ⟨_, rfl, ?_⟩, fun tag hlink hs hc hy => ?_, fun tag arms hlink hs hlen hnodup hy => ?_⟩
    · have hedge : s.confirmEdge j = (s.modInjector j fun x => { x with
          state := .idle, firing := false, confirmTimer := none, misses := 0 }, [.grant j]) := by
        unfold State.confirmEdge
        simp only [show (s.injector j).state = _ from hs]
        rw [setInjectorState_quiet (by rw [State.modInjector_injector_self, show (s.injector j).state = _ from hs]; rfl),
          modInjector_modInjector]
      rw [hedge]
      exact hgrant _ hy.symm (by rw [hy])
    · rw [confirmExpiry_releasing hs ht, if_pos hm,
        setInjectorState_quiet (by rw [State.modInjector_injector_self, show (s.injector j).state = _ from hs]; rfl), modInjector_modInjector]
      exact hgrant _ hy.symm (by rw [hy])
    · refine ⟨_, congrArg Host.Outcome.next (offer_owner hlink (injectorClear_owner hs hc)), ?_⟩
      refine granted_settle ?_ (by rw [hy]) h1 h15 (fun i hi => ?_) ?_ ?_ ?_ hq hbefore hafter hreach hun hload hk hsnap hcomp hsorted hnew
      · rw [setInjectorState_injector_self, State.modInjector_injector_self, hy]
      · rw [setInjectorState_injector_ne hi, State.modInjector_injector_ne _ hi]
      · exact (setInjectorState_queues _ j _).1
      · exact (setInjectorState_queues _ j _).2
      · simp [SameExcept]
    · intro set
      have hne : arms ≠ [] := fun h => by rw [hy, h] at hreach; cases hreach
      refine ⟨_, congrArg Host.Outcome.next (offer_owner hlink (injectorSet_owner h1 h15 hne hlen hnodup hs)), ?_⟩
      refine granted_settle ?_ (by rw [hy]) h1 h15 (fun i hi => ?_) ?_ ?_ ?_ hq hbefore hafter hreach hun hload hk hsnap hcomp hsorted hnew
      · rw [setInjectorState_injector_self, State.modInjector_injector_self]
        exact hy.symm
      · rw [setInjectorState_injector_ne hi, State.modInjector_injector_ne _ hi]
      · exact (setInjectorState_queues _ j _).1
      · exact (setInjectorState_queues _ j _).2
      · simp [SameExcept]

end Sys2Proof.Machine.Arming
end

section
/-! The AWAIT_INJECTOR entry of a segment: each component of its snapshot claimed, queued or skipped, and what follows (R62, R64, R130,
R133). -/

namespace Sys2Proof.Machine.Arming

variable {s t u v : State} {a : ArmId} {g : Segment} {pick : Component → Option InjId}

/-! ## What the components come to -/

/-- The claims granted to components counted from an index on. -/
def claimsFrom (pick : Component → Option InjId) : Nat → List Component → List Claim
  | _, [] => []
  | i, c :: cs => (pick c).toList.map (fun j => ⟨j, i, c, 0, false⟩) ++ claimsFrom pick (i + 1) cs

theorem claimsGranted_eq (pick : Component → Option InjId) (cs : List Component) : claimsGranted pick cs = claimsFrom pick 1 cs := by
  have hgen : ∀ (cs : List Component) (i : Nat), (List.range cs.length).filterMap (fun n => (cs[n]?).bind fun c =>
      (pick c).map fun j => (⟨j, n + i, c, 0, false⟩ : Claim)) = claimsFrom pick i cs := by
    intro cs
    induction cs with
    | nil => intro i; rfl
    | cons c cs ih =>
      intro i
      rw [List.length_cons, List.range_succ_eq_map, List.filterMap_cons, List.filterMap_map]
      have htail : (List.range cs.length).filterMap ((fun n => ((c :: cs)[n]?).bind fun c =>
          (pick c).map fun j => (⟨j, n + i, c, 0, false⟩ : Claim)) ∘ Nat.succ) = claimsFrom pick (i + 1) cs := by
        rw [← ih (i + 1)]
        refine List.filterMap_congr fun n _ => ?_
        simp only [Function.comp, List.getElem?_cons_succ]
        rw [show n.succ + i = n + (i + 1) by omega]
      rw [htail, claimsFrom]
      cases hp : pick c <;> simp [hp]
  exact hgen cs 1

/-- The components skipped UNDOSED, counted from an index on. -/
def undosedFrom (pick : Component → Option InjId) : Nat → List Component → BitVec 3
  | _, [] => 0#3
  | i, c :: cs => (if !c.mandatory && (pick c).isNone then BitVec.twoPow 3 (i - 1) else 0#3) ||| undosedFrom pick (i + 1) cs

theorem mem_claimsFrom {i : Nat} {cs : List Component} {d : Claim} (h : d ∈ claimsFrom pick i cs) :
    i ≤ d.index ∧ ∃ c ∈ cs, pick c = some d.injector := by
  induction cs generalizing i with
  | nil => cases h
  | cons c cs ih =>
    rcases List.mem_append.1 h with h | h
    · obtain ⟨j, hj, rfl⟩ := List.mem_map.1 h
      exact ⟨le_refl i, c, by simp, by simpa using hj⟩
    · obtain ⟨h1, c', hc', hp⟩ := ih h
      exact ⟨by omega, c', by simp [hc'], hp⟩

theorem claimsFrom_length (i : Nat) (cs : List Component) : (claimsFrom pick i cs).length ≤ cs.length := by
  induction cs generalizing i with
  | nil => exact le_refl 0
  | cons c cs ih =>
    have := ih (i + 1)
    rw [claimsFrom, List.length_append, List.length_map, List.length_cons]
    cases pick c <;> simp <;> omega

/-- A component has a claim exactly when an injector was picked for it. -/
theorem claimsFrom_any (i n : Nat) (cs : List Component) :
    (claimsFrom pick i cs).any (fun d => d.index == n + i) = (cs[n]?).any fun c => (pick c).isSome := by
  induction cs generalizing i n with
  | nil => rfl
  | cons c cs ih =>
    rw [claimsFrom, List.any_append]
    cases n with
    | zero =>
      have hno : (claimsFrom pick (i + 1) cs).any (fun d => d.index == 0 + i) = false := by
        rw [List.any_eq_false]
        intro d hd
        have := (mem_claimsFrom hd).1
        simp; omega
      rw [hno]
      cases hp : pick c <;> simp [hp]
    | succ n =>
      have hno : ((pick c).toList.map (fun j => (⟨j, i, c, 0, false⟩ : Claim))).any (fun d => d.index == n + 1 + i) = false := by
        cases pick c <;> simp
      rw [hno, Bool.false_or, show n + 1 + i = n + (i + 1) by omega, ih]
      simp

theorem undosedFrom_bit (i : Nat) (cs : List Component) {n : Nat} (hn : n < 3) (hi : 1 ≤ i) :
    (undosedFrom pick i cs).getLsbD n = (decide (i ≤ n + 1) && (cs[n + 1 - i]?).any fun c => !c.mandatory && (pick c).isNone) := by
  induction cs generalizing i with
  | nil => simp [undosedFrom]
  | cons c cs ih =>
    rw [undosedFrom, BitVec.getLsbD_or, ih (i + 1) (by omega)]
    rcases Nat.lt_trichotomy (n + 1) i with h | h | h
    · have h1 : decide (i ≤ n + 1) = false := by simpa using h
      have h2 : decide (i + 1 ≤ n + 1) = false := by simp; omega
      rw [h1, h2]
      split
      · simp; omega
      · simp
    · have h2 : decide (i + 1 ≤ n + 1) = false := by simp; omega
      rw [h2, ← h]
      cases hskip : (!c.mandatory && (pick c).isNone) <;> simp [hskip, hn]
    · have h1 : decide (i ≤ n + 1) = true := by simp; omega
      have h2 : decide (i + 1 ≤ n + 1) = true := by simp; omega
      rw [h1, h2, show n + 1 - i = (n + 1 - (i + 1)) + 1 by omega, List.getElem?_cons_succ]
      split
      · simp; omega
      · simp

theorem insertClaim_last (c : Claim) (ds : List Claim) (h : ∀ d ∈ ds, d.index < c.index) : insertClaim c ds = ds ++ [c] := by
  induction ds with
  | nil => rfl
  | cons d ds ih =>
    have := h d (by simp)
    rw [insertClaim, if_neg (by omega), ih fun e he => h e (by simp [he]), List.cons_append]

/-! ## One component (R130) -/

theorem idleInjector_eq {c : Component} {p : Option InjId} (h : Picks s a c p) : s.idleInjector c.cls a = p := by
  unfold Picks at h
  unfold State.idleInjector
  cases p with
  | none =>
    rw [List.find?_eq_none]
    intro j _ hj
    simp only [Bool.and_eq_true, beq_iff_eq, List.contains_iff_mem] at hj
    exact h j ⟨hj.1.1, hj.1.2, hj.2⟩
  | some j =>
    obtain ⟨hfits, hfirst⟩ := h
    have hj : ((s.injector j).state == .idle && (s.injector j).cls == c.cls && (s.injector j).reach.contains a) = true := by
      simp only [Bool.and_eq_true, beq_iff_eq, List.contains_iff_mem]
      exact ⟨⟨hfits.1, hfits.2.1⟩, hfits.2.2⟩
    rw [List.find?_eq_some_iff_getElem]
    refine ⟨hj, j.val, by simp [allInjectors], by simp [allInjectors], fun i hi => ?_⟩
    have hno := hfirst ⟨i, by omega⟩ hi
    simp only [allInjectors, List.getElem_finRange, Fin.cast_mk, Bool.not_eq_true', Bool.and_eq_false_iff]
    by_contra hcon
    simp only [not_or, Bool.not_eq_false, beq_iff_eq, List.contains_iff_mem] at hcon
    exact hno ⟨hcon.1.1, hcon.1.2, hcon.2⟩

/-- The state after one component. -/
def askedOne (a : ArmId) (i : Nat) (c : Component) (p : Option InjId) (s : State) : State :=
  p.elim (if c.mandatory then s.setQueue c.cls (s.dosing.queue c.cls ++ [⟨a, i, s.clock.minute⟩])
      else s.modSeg a fun g => { g with undosed := g.undosed ||| BitVec.twoPow 3 (i - 1) })
    fun j => (s.modInjector j (claimedBy ⟨a, i⟩)).modSeg a fun g => { g with claims := insertClaim ⟨j, i, c, 0, false⟩ g.claims }

theorem askComponent_eq {c : Component} {p : Option InjId} (h : Picks s a c p) (i : Nat) :
    s.askComponent a i c = askedOne a i c p s := by
  unfold State.askComponent
  rw [idleInjector_eq h]
  cases p with
  | none => rfl
  | some j => exact startClaim_eq (by rw [h.1.1]; rfl) a i c

/-- Another class's picks stand. -/
theorem picks_askedOne {c d : Component} {p q : Option InjId} (h : Picks s a c p) (hne : d.cls ≠ c.cls) (hd : Picks s a d q) (i : Nat) :
    Picks (askedOne a i c p s) a d q := by
  have hfits : ∀ j, ((askedOne a i c p s).injector j).state = .idle ∧ ((askedOne a i c p s).injector j).cls = d.cls
      ∧ a ∈ ((askedOne a i c p s).injector j).reach
      ↔ (s.injector j).state = .idle ∧ (s.injector j).cls = d.cls ∧ a ∈ (s.injector j).reach := by
    intro j
    cases p with
    | none =>
      have : (askedOne a i c none s).injector = s.injector := by
        simp only [askedOne, Option.elim_none]
        split <;> rfl
      rw [this]
    | some k =>
      simp only [askedOne, Option.elim_some, State.modSeg_injector]
      by_cases hj : j = k
      · subst hj
        have hcls := h.1.2.1
        rw [State.modInjector_injector_self]
        constructor
        · intro hx; exact absurd (hx.2.1.symm.trans hcls) hne
        · intro hx; exact absurd (hx.2.1.symm.trans hcls) hne
      · rw [State.modInjector_injector_ne _ hj]
  unfold Picks at hd ⊢
  cases q with
  | none => exact fun j => (not_congr (hfits j)).2 (hd j)
  | some j => exact ⟨(hfits j).2 hd.1, fun i' hi => (not_congr (hfits i')).2 (hd.2 i' hi)⟩

end Sys2Proof.Machine.Arming
end

section
/-! The AWAIT_INJECTOR entry (continued): all the components, and the entry as a whole (R62, R64, R130, R133). -/

namespace Sys2Proof.Machine.Arming

variable {s t u v w : State} {a : ArmId} {g : Segment} {pick : Component → Option InjId} {i : Nat} {c : Component}
  {cs : List Component} {o : Order} {l : Line} {p : Permit}

/-- What the components of a snapshot, counted from `i` on, have done once each has its pick. -/
structure AskedFrom (a : ArmId) (i : Nat) (pick : Component → Option InjId) (cs : List Component) (g : Segment) (s w : State) : Prop where
  arm : w.arm a = { s.arm a with status := .segment { g with
    claims := g.claims ++ claimsFrom pick i cs, undosed := g.undosed ||| undosedFrom pick i cs } }
  others : OtherArms a s w
  injectors : ∀ j, w.injector j = ((claimsFrom pick i cs).find? (·.injector == j)).elim (s.injector j)
    fun k => claimedBy ⟨a, k.index⟩ (s.injector j)
  queues : ∀ n c, cs[n]? = some c → w.dosing.queue c.cls = s.dosing.queue c.cls ++
    if c.mandatory && (pick c).isNone then [⟨a, n + i, s.clock.minute⟩] else []
  rest : ∀ n, 1 ≤ n → n ∉ cs.map (·.cls) → w.dosing.queue n = s.dosing.queue n
  recipes : w.dosing.recipes = s.dosing.recipes
  same : SameExcept [.arms, .dosing] s w

/-- No component: nothing is done. -/
theorem askedFrom_nil (hseg : s.seg? a = some g) : AskedFrom a i pick [] g s s where
  arm := by
    simp only [claimsFrom, undosedFrom, List.append_nil, BitVec.or_zero]
    rw [← status_of_seg? hseg]
  others := fun _ _ => rfl
  injectors := fun _ => rfl
  queues := fun n c h => by cases h
  rest := fun _ _ _ => rfl
  recipes := rfl
  same := same_refl _ s

/-- One component, picked for. -/
theorem askedFrom_one (hseg : s.seg? a = some g) (hlt : ∀ d ∈ g.claims, d.index < i) (h1 : 1 ≤ c.cls) (h15 : c.cls ≤ 15) :
    AskedFrom a i pick [c] g s (askedOne a i c (pick c) s) := by
  have hstatus := status_of_seg? hseg
  cases hp : pick c with
  | some j =>
    have hclaims : claimsFrom pick i [c] = [⟨j, i, c, 0, false⟩] := by simp [claimsFrom, hp]
    have hundosed : undosedFrom pick i [c] = 0#3 := by simp [undosedFrom, hp]
    simp only [askedOne, Option.elim_some]
    refine ⟨?_, fun b hb => by rw [modSeg_arm_ne hb]; rfl, fun j' => ?_, fun n d hd => ?_, fun _ _ _ => rfl, rfl, by simp [SameExcept]⟩
    · rw [modSeg_arm_of_seg? (g := g) (by exact hseg), hclaims, hundosed, insertClaim_last _ _ hlt]
      simp
    · rw [hclaims, State.modSeg_injector]
      by_cases hj : j' = j
      · subst hj
        rw [State.modInjector_injector_self]; simp
      · rw [State.modInjector_injector_ne _ hj, List.find?_cons_of_neg (by simpa using Ne.symm hj)]; rfl
    · obtain ⟨rfl, rfl⟩ : n = 0 ∧ c = d := by cases n <;> simp_all
      rw [hp, State.modSeg_dosing]
      simp
      rfl
  | none =>
    have hclaims : claimsFrom pick i [c] = [] := by simp [claimsFrom, hp]
    cases hm : c.mandatory with
    | true =>
      have hundosed : undosedFrom pick i [c] = 0#3 := by simp [undosedFrom, hm]
      simp only [askedOne, Option.elim_none, hm, if_true]
      refine ⟨?_, fun _ _ => rfl, fun _ => by rw [hclaims]; rfl, fun n d hd => ?_, fun n hn hne => ?_, rfl, by simp [SameExcept]⟩
      · rw [hclaims, hundosed, List.append_nil, BitVec.or_zero]
        exact (congrArg (fun st => { s.arm a with status := st }) hstatus)
      · obtain ⟨rfl, rfl⟩ : n = 0 ∧ c = d := by cases n <;> simp_all
        rw [queue_setQueue_self h1 h15]
        simp [hm, hp]
      · exact queue_setQueue_ne h1 hn (by simpa using hne) _ s
    | false =>
      have hundosed : undosedFrom pick i [c] = BitVec.twoPow 3 (i - 1) := by simp [undosedFrom, hm, hp]
      simp only [askedOne, Option.elim_none, hm]
      refine ⟨?_, fun b hb => modSeg_arm_ne hb _ _, fun _ => by rw [hclaims]; rfl, fun n d hd => ?_, fun _ _ _ => rfl, rfl,
        same_mono (sameExcept_modSeg _ a _) (by decide)⟩
      · rw [if_neg (by simp), modSeg_arm_of_seg? hseg, hclaims, hundosed, List.append_nil]
      · obtain ⟨rfl, rfl⟩ : n = 0 ∧ c = d := by cases n <;> simp_all
        simp [hm]

/-- One component and then the others, whose classes differ from its own. -/
theorem askedFrom_cons (h : AskedFrom a i pick [c] g s u)
    (h' : AskedFrom a (i + 1) pick cs { g with
      claims := g.claims ++ claimsFrom pick i [c], undosed := g.undosed ||| undosedFrom pick i [c] } u w)
    (hnew : c.cls ∉ cs.map (·.cls)) (hlow : ∀ d ∈ c :: cs, 1 ≤ d.cls) (hpick : ∀ d ∈ c :: cs, Picks s a d (pick d)) :
    AskedFrom a i pick (c :: cs) g s w := by
  have hclaims : claimsFrom pick i (c :: cs) = claimsFrom pick i [c] ++ claimsFrom pick (i + 1) cs := by simp [claimsFrom]
  have hundosed : undosedFrom pick i (c :: cs) = undosedFrom pick i [c] ||| undosedFrom pick (i + 1) cs := by simp [undosedFrom]
  have hclock : u.clock = s.clock := by
    obtain ⟨-, -, -, -, -, -, -, -, hclock, -⟩ := h.same
    exact hclock.resolve_left (by simp)
  have hcls : ∀ d ∈ c :: cs, ∀ j, pick d = some j → (s.injector j).cls = d.cls := fun d hd j hj => by
    have := hpick d hd
    rw [hj] at this
    exact this.1.2.1
  refine ⟨?_, fun b hb => (h'.others b hb).trans (h.others b hb), fun j => ?_, fun n d hd => ?_, fun n hn hne => ?_,
    h'.recipes.trans h.recipes, same_trans h.same h'.same (by decide) (by decide)⟩
  · rw [h'.arm, h.arm, hclaims, hundosed, List.append_assoc, BitVec.or_assoc]
  · rw [h'.injectors, h.injectors, hclaims, List.find?_append]
    cases hf : (claimsFrom pick i [c]).find? (·.injector == j) with
    | none => rfl
    | some k =>
      have hk := List.find?_some hf
      obtain ⟨-, d, hd, hkd⟩ := mem_claimsFrom (List.mem_of_find?_eq_some hf)
      have hrest : (claimsFrom pick (i + 1) cs).find? (·.injector == j) = none := by
        rw [List.find?_eq_none]
        intro k' hk' hj
        obtain ⟨-, d', hd', hkd'⟩ := mem_claimsFrom hk'
        simp only [beq_iff_eq] at hj hk
        rw [hj] at hkd'
        rw [hk] at hkd
        obtain rfl : d = c := by simpa using hd
        refine hnew (List.mem_map.2 ⟨d', hd', ?_⟩)
        rw [← hcls d' (by simp [hd']) j hkd', hcls d (by simp) j hkd]
      rw [hrest]
      rfl
  · cases n with
    | zero =>
      obtain rfl : c = d := by simpa using hd
      rw [h'.rest c.cls (hlow c (by simp)) hnew, h.queues 0 c rfl]
    | succ n =>
      have hd' : cs[n]? = some d := by simpa using hd
      have hmem := List.mem_of_getElem? hd'
      have hne : d.cls ≠ c.cls := fun he => hnew (List.mem_map.2 ⟨d, hmem, he⟩)
      rw [h'.queues n d hd', h.rest d.cls (hlow d (by simp [hmem])) (by simpa using hne), hclock, show n + (i + 1) = n + 1 + i by omega]
  · rw [List.map_cons, List.mem_cons, not_or] at hne
    rw [h'.rest n hn hne.2, h.rest n hn (by simpa using hne.1)]

/-- The components of a snapshot, of classes that differ, one after the other. -/
theorem askComponents_asked (hseg : s.seg? a = some g) (hlt : ∀ d ∈ g.claims, d.index < i) (hnd : (cs.map (·.cls)).Nodup)
    (hcls : ∀ c ∈ cs, 1 ≤ c.cls ∧ c.cls ≤ 15) (hpick : ∀ c ∈ cs, Picks s a c (pick c)) :
    AskedFrom a i pick cs g s (State.askComponents a i cs s) := by
  induction cs generalizing i g s with
  | nil => exact askedFrom_nil hseg
  | cons c cs ih =>
    obtain ⟨hc1, hc15⟩ := hcls c (by simp)
    rw [List.map_cons, List.nodup_cons] at hnd
    rw [State.askComponents, askComponent_eq (hpick c (by simp))]
    have hone := askedFrom_one (pick := pick) hseg hlt hc1 hc15
    refine askedFrom_cons hone (ih ?_ ?_ hnd.2 (fun d hd => hcls d (by simp [hd])) fun d hd => ?_) hnd.1
      (fun d hd => (hcls d hd).1) hpick
    · rw [State.seg?, hone.arm]; rfl
    · intro d hd
      rcases List.mem_append.1 hd with hd | hd
      · exact Nat.lt_succ_of_lt (hlt d hd)
      · cases hp : pick c <;> simp [claimsFrom, hp] at hd
        subst hd
        exact Nat.lt_succ_self i
    · exact picks_askedOne (hpick c (by simp)) (fun he => hnd.1 (List.mem_map.2 ⟨d, hd, he⟩)) (hpick d (by simp [hd])) i

/-! ## The entry -/

/-- Every mandatory component has its pick. -/
def allGranted (pick : Component → Option InjId) (cs : List Component) : Bool := cs.all fun c => !c.mandatory || (pick c).isSome

theorem granted_claimsFrom (g : Segment) (pick : Component → Option InjId) (cs : List Component) (hg : g.claims = claimsFrom pick 1 cs) :
    g.granted 1 cs = allGranted pick cs := by
  rw [Bool.eq_iff_iff, granted_iff, allGranted, List.all_eq_true, hg]
  simp only [claimsFrom_any]
  constructor
  · intro h c hc
    obtain ⟨n, hn⟩ := List.getElem?_of_mem hc
    cases hm : c.mandatory with
    | false => rfl
    | true => simpa [hn] using h n c hn hm
  · intro h n c hn hm
    simpa [hn, hm] using h c (List.mem_of_getElem? hn)

/-- The segment as the entry with a snapshot leaves it. -/
def askedSegment (pick : Component → Option InjId) (cs : List Component) (g : Segment) : Segment :=
  { g with
    claims := claimsGranted pick cs, undosed := undosedFrom pick 1 cs
    injectorTimer := if allGranted pick cs then none else some 30000 }

/-- The components settled, with the injector wait when one is still to be granted. -/
theorem asked_of_askedFrom (h : AskedFrom a 1 pick cs g v u)
    (harm : w.arm a = { v.arm a with status := .segment (askedSegment pick cs g) }) (hother : OtherArms a u w)
    (hdosing : w.dosing = u.dosing) (hsame : SameExcept [.arms] u w) : Asked a pick cs g (askedSegment pick cs g) v w := by
  have hinj := injector_of_injectors (congrArg Dosing.injectors hdosing)
  refine ⟨harm, fun c hc => (hother c hc).trans (h.others c hc), rfl, fun n hn => ?_, fun j => ?_, fun n c hc => ?_, fun n hn hne => ?_, ?_,
    same_trans h.same hsame (by decide) (by decide)⟩
  · rw [askedSegment, undosedFrom_bit 1 cs hn (le_refl 1)]
    simp
  · rw [hinj, h.injectors, claimsGranted_eq]
    cases (claimsFrom pick 1 cs).find? (·.injector == j) <;> rfl
  · rw [hdosing]; exact h.queues n c hc
  · rw [hdosing]; exact h.rest n hn hne
  · rw [hdosing]; exact h.recipes

/-- An uncounted segment stays loaded through changes of its acquisition records alone. -/
theorem loads_asked {h : Segment} (hl : Loads a g o l p v) (hseg : w.seg? a = some h) (hsame : SameExcept [.arms, .dosing] v w)
    (hclaims : h.claims.length ≤ 4) (hno : h.orderNo = g.orderNo) (hcomp : h.compartment = g.compartment) (hbay : h.bay = g.bay)
    (hcounted : h.counted = g.counted) (hnet : h.net = g.net) : Loads a h o l p w := by
  obtain ⟨hpermits, horders, -, hbays, -⟩ := hsame
  refine ⟨hseg, hcounted.trans hl.uncounted, hnet.trans hl.net, hclaims, ?_, ?_, ?_, ?_, ?_, hl.used⟩
  · rw [bay_of_bays (hbays.resolve_left (by simp)), hbay, hno]; exact hl.bound
  · rw [bay_of_bays (hbays.resolve_left (by simp)), hbay]; exact hl.loading
  · rw [order?_of_orders (horders.resolve_left (by simp)), hno]; exact hl.order
  · rw [hcomp]; exact hl.line
  · rw [permit?_of_permits (hpermits.resolve_left (by simp))]; exact hl.permit

/-- The AWAIT_INJECTOR entry of a segment that holds no claim, as a part of an event. -/
theorem entersInjector {k : SlotId} (h : Loads a g o l p v) (hclaims : g.claims = []) (hundosed : g.undosed = 0#3)
    (htimer : g.injectorTimer = none) (hk : o.noteSlot = some k) {n : Nat} (hn : 14 ≤ n) :
    EntersInjector a g k v (runJobs n [.enterInjector a] v) := by
  obtain ⟨n, rfl⟩ : ∃ n', n = n' + 1 := ⟨n - 1, by omega⟩
  intro o' l' ho' hl'
  obtain rfl : o = o' := Option.some.inj (h.order.symm.trans ho')
  obtain rfl : l = l' := Option.some.inj (h.line.symm.trans hl')
  have hline : v.segLine? g = some l := by rw [State.segLine?, State.line?, h.order]; exact h.line
  rw [runJobs_cons, doJob, State.enterInjector, h.seg]
  dsimp only
  rw [hline]
  dsimp only
  refine ⟨fun hr => ?_, fun hr hs => ?_, fun cs pick hr hs hlen hnd hcls hpick => ?_⟩
  · rw [hr]
    exact completes_complete h hk (by omega)
  · obtain ⟨r, hr⟩ := Option.ne_none_iff_exists'.1 hr
    rw [hr, hs]
    refine endsUncounted_endSegment h (fun d hd => ?_) ⟨by simp, by simp, by simp⟩ (by omega)
    rw [hclaims] at hd
    cases hd
  · obtain ⟨r, hr⟩ := Option.ne_none_iff_exists'.1 hr
    rw [hr, hs]
    dsimp only
    have hasked := askComponents_asked (i := 1) h.seg (by rw [hclaims]; simp) hnd hcls hpick
    generalize State.askComponents a 1 cs v = u at hasked ⊢
    have harm := hasked.arm
    rw [hclaims, hundosed, List.nil_append, BitVec.zero_or] at harm
    have hseg : u.seg? a = some { g with claims := claimsFrom pick 1 cs, undosed := undosedFrom pick 1 cs } := by
      rw [State.seg?, harm]; rfl
    rw [hseg, Option.any_some, granted_claimsFrom _ pick cs rfl]
    cases hall : allGranted pick cs with
    | true =>
      have hsg : askedSegment pick cs g = { g with claims := claimsFrom pick 1 cs, undosed := undosedFrom pick 1 cs } := by
        rw [askedSegment, hall, claimsGranted_eq, if_pos rfl, ← htimer]
      refine ⟨askedSegment pick cs g, u, asked_of_askedFrom hasked (by rw [harm, hsg]) (fun _ _ => rfl) rfl
        (same_refl _ u), fun _ => ?_, fun hne => ?_⟩
      · rw [if_pos rfl]
        refine completes_complete (loads_asked (h := askedSegment pick cs g) h (by rw [hseg, hsg]) hasked.same ?_ rfl rfl rfl rfl rfl) hk (by omega)
        rw [hsg]
        exact le_trans (claimsFrom_length 1 cs) (by omega)
      · exact absurd (by rw [askedSegment, hall]; rfl) hne
    | false =>
      rw [if_neg (by simp)]
      refine ⟨askedSegment pick cs g, u.modSeg a fun x => { x with injectorTimer := some Config.injectorWaitMs },
        asked_of_askedFrom hasked ?_ (fun c hc => modSeg_arm_ne hc _ _) (by simp) (sameExcept_modSeg _ a _),
        fun hnone => ?_, fun _ => runJobs_nil _ _⟩
      · rw [modSeg_arm_of_seg? hseg, harm, askedSegment, hall, claimsGranted_eq]
        rfl
      · rw [askedSegment, hall] at hnone
        cases hnone

end Sys2Proof.Machine.Arming
end

section
/-! The lookup of an accepted segment: a want on a miss, the pinned entry and the AWAIT_INJECTOR entry on a hit (R61, R106, R109). -/

namespace Sys2Proof.Machine.Arming

variable {s t u v : State} {a : ArmId} {g : Segment} {o : Order} {l : Line} {p : Permit}

theorem setWants_onlyMarks (s : State) (ws : List Want) : OnlyMarks [.want] s (s.setWants ws) := by
  obtain ⟨-, hedges, hocc⟩ := levelChange_marks { s with cache := { s.cache with wants := ws } } .want s.att.edges.want
    (!s.cache.wants.isEmpty) (!ws.isEmpty)
  exact ⟨hedges, hocc, fun src hsrc => levelChange_marked_ne (by simpa using hsrc) _ _ _ _⟩

theorem onlyMarks_of_att {srcs : List Source} (h : t.att = s.att) : OnlyMarks srcs s t :=
  ⟨by rw [h], by rw [h], fun src _ => by rw [h]⟩

theorem removeWant_onlyMarks (s : State) (a : ArmId) : OnlyMarks [.want] s (s.removeWant a) := by
  unfold State.removeWant
  split
  · exact setWants_onlyMarks s _
  · exact onlyMarks_of_att rfl

theorem wantPlaced_placeWant (hseg : u.seg? a = some g) (product : Nat) : WantPlaced a g product u (u.placeWant a product) := by
  generalize hw : u.cache.wants ++ [⟨a, a.val, product, u.clock.minute⟩] = ws
  have hplace : u.placeWant a product = (u.setWants ws).modSeg a fun g => { g with wantTimer := some 20000 } := by rw [← hw]; rfl
  have hseg' : (u.setWants ws).seg? a = some g := by rw [State.setWants_seg?]; exact hseg
  rw [hplace]
  unfold WantPlaced
  rw [hw]
  refine ⟨?_, fun c hc => ?_, ?_, ?_, ?_, ?_⟩
  · rw [modSeg_arm_of_seg? hseg', State.setWants_arm]
  · rw [modSeg_arm_ne hc, State.setWants_arm]
  · simp [State.setWants]
  · obtain ⟨hedges, hocc, hmarks⟩ := setWants_onlyMarks u ws
    exact ⟨by simpa using hedges, by simpa using hocc, fun src hsrc => by simpa using hmarks src hsrc⟩
  · have := setWants_marked u ws
    simpa [WantMarked] using this
  · simp [SameExcept, State.setWants]

/-- The entry of a hit: pinned to the segment, which awaits its injectors, and moved to the front. -/
theorem pinned_hit {e : EntryId} {x : Entry} (hseg : u.seg? a = some g) (hx : u.entry e = some x) :
    Pinned a (hitSegment g e x) e x u ((u.hit a e).modSeg a fun g => { g with phase := .awaitInjector }) := by
  have hmod : (u.modEntry e fun y => { y with pinCount := 1 }) = u.setEntry e (some { x with pinCount := 1 }) := by
    rw [State.modEntry, hx]; rfl
  refine ⟨?_, fun c hc => ?_, ?_, by simp [SameExcept, State.hit, State.pin]⟩
  · have hstatus : (((u.hit a e).arm a)).status = .segment { g with entry := some e, calSerial := some x.calSerial } := by
      rw [show (u.hit a e).arm a = (u.pin a e).arm a from rfl, State.pin, hmod, modSeg_arm_of_seg? (g := g) (by exact hseg), hx]
      rfl
    rw [modSeg_arm_self, modSeg_of_status hstatus, show (u.hit a e).arm a = (u.pin a e).arm a from rfl, State.pin, hmod,
      modSeg_arm_of_seg? (g := g) (by exact hseg)]
    rfl
  · rw [modSeg_arm_ne hc, show (u.hit a e).arm c = (u.pin a e).arm c from rfl, State.pin, modSeg_arm_ne hc, State.modEntry_arm]
  · rw [State.modSeg_cache, State.hit, State.pin, hmod]
    rfl

/-- What an acceptance brings in its event. -/
theorem acquires_enterProfile {k : SlotId} (h : Loads a g o l p u) (hclaims : g.claims = []) (hundosed : g.undosed = 0#3)
    (htimer : g.injectorTimer = none) (hk : o.noteSlot = some k) {n : Nat} (hn : 14 ≤ n) :
    Acquires a g k u (runJobs n (u.enterProfile a l.product).2 (u.enterProfile a l.product).1) := by
  intro l' hl'
  obtain rfl : l = l' := by
    rw [State.line?, h.order] at hl'
    exact Option.some.inj (h.line.symm.trans hl')
  unfold State.enterProfile
  refine ⟨fun hmiss => ?_, fun e x hhit hx => ?_⟩
  · rw [hmiss]
    dsimp only
    rw [runJobs_nil]
    exact wantPlaced_placeWant h.seg l.product
  · rw [hhit]
    dsimp only
    have hpin := pinned_hit h.seg hx
    refine ⟨_, hpin, ?_⟩
    obtain ⟨harm, -, -, hsame⟩ := hpin
    refine entersInjector (g := hitSegment g e x) (l := l) (p := p) ?_ hclaims hundosed htimer hk hn
    obtain ⟨hpermits, horders, -, hbays, -⟩ := hsame
    refine ⟨by rw [State.seg?, harm]; rfl, h.uncounted, h.net, h.claims, ?_, ?_, ?_, h.line, ?_, h.used⟩
    · rw [bay_of_bays (hbays.resolve_left (by simp))]; exact h.bound
    · rw [bay_of_bays (hbays.resolve_left (by simp))]; exact h.loading
    · rw [order?_of_orders (horders.resolve_left (by simp))]; exact h.order
    · rw [permit?_of_permits (hpermits.resolve_left (by simp))]; exact h.permit

end Sys2Proof.Machine.Arming
end

section
/-! The effects of an acceptance: the claim and the segment, the note slot, the reservation, the line, the order and the bay (R59). -/

namespace Sys2Proof.Machine.Arming

variable {s t u v : State} {a : ArmId} {b : BayId} {o : Order} {l : Line} {p : Permit} {r : Reservation} {origin : Origin}

/-- The claim and the fresh segment at an IDLE arm. -/
theorem claimed_eq (h : (s.arm a).status = .idle) (b : BayId) (o : Order) (l : Line) (r : Reservation) (origin : Origin) :
    claimed ⟨b, a, l.compartment, origin⟩ o l r s = s.modArm a fun x => { x with
      status := .segment (acceptedSegment o l b origin r), claim := some b } := by
  unfold claimed
  dsimp only
  rw [setArmStatus_quiet (by rw [State.modArm_arm_self, h]; rfl)]
  simp only [State.modArm, Vector.set_set, Vector.getElem_set_self, Fin.getElem_fin]
  rfl

/-- The note slot of an accepted order: the one it has, or the lowest FREE one reserved (R150). -/
theorem reserveNote_spec (ho : s.order? o.orderNo = some o) (hfree : o.noteSlot ≠ none ∨ ∃ k, s.slot k = .free) (b : BayId) :
    ∃ k, (∀ i, o.noteSlot = some i → k = i ∧ (s.reserveNote o b).notes = s.notes)
      ∧ (o.noteSlot = none → LowestFree k s ∧ (s.reserveNote o b).notes = { s.notes with
          slots := s.notes.slots.set k.val (.reserved ⟨o.orderNo, o.card, b, none, [], false, none⟩) k.isLt })
      ∧ (s.reserveNote o b).order? o.orderNo = some { o with noteSlot := some k }
      ∧ OtherOrders o.orderNo s (s.reserveNote o b) ∧ SameExcept [.orders, .notes] s (s.reserveNote o b) := by
  unfold State.reserveNote
  cases hk : o.noteSlot with
  | some i =>
    refine ⟨i, fun j hj => ⟨Option.some.inj hj, rfl⟩, nofun, ?_, fun _ _ => rfl, same_refl _ s⟩
    dsimp only
    rw [ho, ← hk]
  | none =>
    obtain ⟨k₀, hk₀⟩ := hfree.resolve_left (by simp [hk])
    cases hf : s.notes.firstFree with
    | none =>
      have := List.find?_eq_none.1 hf k₀ (by simp [allSlots])
      exact absurd hk₀ (by simpa [State.slot] using this)
    | some k =>
      have hfind := List.find?_eq_some_iff_getElem.1 hf
      obtain ⟨hk', i, hi, hki, hmin⟩ := hfind
      refine ⟨k, nofun, fun _ => ⟨⟨by simpa [State.slot] using hk', fun j hj => ?_⟩, rfl⟩, ?_, fun n hn => ?_, by simp [SameExcept]⟩
      · have hival : i = k.val := by
          rw [← hki]
          simp [allSlots]
        have := hmin j.val (by rw [hival]; exact hj)
        simpa [allSlots, State.slot] using this
      · dsimp only
        rw [order?_modOrder _ _ (by exact fun _ => rfl), State.setSlot_order?, ho]
        rfl
      · dsimp only
        rw [order?_modOrder_ne _ hn (by exact fun _ => rfl), State.setSlot_order?]

/-- The bay's part of an acceptance (R40, R59). -/
theorem bayAccepts_spec (h : (s.bay b).state = .carded ∨ (s.bay b).state = .loading) (a : ArmId) (c : Nat) (origin : Origin) (no : Nat) :
    (s.bayAccepts ⟨b, a, c, origin⟩ no).bay b = { s.bay b with
        state := .loading, display := some (.loading a)
        cardIdleTimer := if (s.bay b).state = .carded then none else (s.bay b).cardIdleTimer }
      ∧ (s.bayAccepts ⟨b, a, c, origin⟩ no).outputs = s.outputs ++ [.prompt b (.loading a)]
      ∧ ((s.bay b).state = .carded → (s.bayAccepts ⟨b, a, c, origin⟩ no).att.bayMarks[b] = true)
      ∧ AtBay b (s.modOrder no fun o => { o with state := .loading }) (s.bayAccepts ⟨b, a, c, origin⟩ no) := by
  have hbay : (s.modOrder no fun o => { o with state := .loading }).bay b = s.bay b := rfl
  unfold State.bayAccepts
  dsimp only
  rw [hbay]
  rcases h with h | h
  · rw [if_pos h, if_pos h]
    refine ⟨?_, by simp, fun _ => ?_, ((atBay_modBay _ b _).trans (atBay_setBayState _ b _)).trans (atBay_prompt _ b _)⟩
    · rw [prompt_bay_self, setBayState_bay_self, State.modBay_bay_self, hbay]
    · rw [State.prompt, State.emit_att, State.modBay_att, State.setBayState]
      rw [State.modBay_bay_self, hbay, h, if_neg (by simp),
        if_pos (by rfl : BayState.carded.level = BayState.loading.level)]
      exact put_marked_self _ (.bay b) true
  · have hne : (s.bay b).state ≠ .carded := by rw [h]; simp
    rw [if_neg hne, if_neg hne]
    refine ⟨?_, by simp, fun hc => absurd hc hne, atBay_prompt _ b _⟩
    rw [prompt_bay_self, hbay, ← h]

theorem snapshotFor_eq (h : t.dosing = s.dosing) (l : Line) : t.snapshotFor l = snapshotAt s l := by
  unfold State.snapshotFor snapshotAt State.recipe?
  rw [h]
  cases l.snapshot <;> cases l.recipe <;> rfl

/-- The reservation and the line of an acceptance, with the snapshot that the line takes in a state (R14, R124). -/
def reserved (o : Order) (l : Line) (r : Reservation) (s n : State) : State :=
  (n.modPermit o.card fun p => { p with reserved := p.reserved + r.reservedL }).modLine o.orderNo l.compartment fun x =>
    { x with state := .active, snapshot := snapshotAt s x }

theorem acceptStart_eq (s : State) (b : BayId) (a : ArmId) (o : Order) (l : Line) (r : Reservation) (origin : Origin) :
    s.acceptStart ⟨b, a, l.compartment, origin⟩ o l r
      = (reserved o l r s ((claimed ⟨b, a, l.compartment, origin⟩ o l r s).reserveNote o b)).bayAccepts ⟨b, a, l.compartment, origin⟩
        o.orderNo := by
  have hdosing : ((claimed ⟨b, a, l.compartment, origin⟩ o l r s).reserveNote o b).dosing = s.dosing := by
    have h1 : (claimed ⟨b, a, l.compartment, origin⟩ o l r s).dosing = s.dosing := by simp [claimed]
    rw [← h1]
    unfold State.reserveNote
    split <;> simp
  have hsnap := fun x => snapshotFor_eq (t := ((claimed ⟨b, a, l.compartment, origin⟩ o l r s).reserveNote o b).modPermit o.card fun p =>
    { p with reserved := p.reserved + r.reservedL }) (s := s) (by rw [State.modPermit_dosing, hdosing]) x
  unfold reserved
  simp only [← hsnap]
  rfl

/-- The records that an acceptance reserves. -/
theorem reserved_spec {n : State} {k : SlotId} (horder : n.order? o.orderNo = some { o with noteSlot := some k })
    (hp : n.permit? o.card = some p) (l : Line) (r : Reservation) (s : State) :
    (reserved o l r s n).permit? o.card = some { p with reserved := p.reserved + r.reservedL }
      ∧ (reserved o l r s n).order? o.orderNo = some { o with
        noteSlot := some k
        lines := o.lines.map fun x =>
          if x.compartment = l.compartment then { x with state := .active, snapshot := snapshotAt s x } else x }
      ∧ OtherPermits o.card n (reserved o l r s n) ∧ OtherOrders o.orderNo n (reserved o l r s n)
      ∧ SameExcept [.permits, .orders] n (reserved o l r s n) := by
  unfold reserved
  refine ⟨?_, ?_, fun c hc => ?_, fun i hi => ?_, by simp [SameExcept]⟩
  · rw [State.modLine_permit?, permit?_modPermit _ _ (by exact fun _ => rfl), hp]; rfl
  · rw [order?_modLine_self, State.modPermit_order?, horder]
    simp [Order.modLine]
  · rw [State.modLine_permit?, permit?_modPermit_ne _ hc (by exact fun _ => rfl)]
  · rw [order?_modLine_ne _ hi, State.modPermit_order?]

/-- The acceptance of a start at an IDLE arm. -/
theorem startTaken_acceptStart (hidle : (s.arm a).status = .idle) (hbay : (s.bay b).state = .carded ∨ (s.bay b).state = .loading)
    (ho : s.order? o.orderNo = some o) (hp : s.permit? o.card = some p) (hfree : o.noteSlot ≠ none ∨ ∃ k, s.slot k = .free)
    (r : Reservation) (l : Line) (origin : Origin) :
    ∃ k, StartTaken b a o l p r origin k s (s.acceptStart ⟨b, a, l.compartment, origin⟩ o l r) := by
  rw [acceptStart_eq, claimed_eq hidle]
  have hcorder : (s.modArm a fun x => { x with status := .segment (acceptedSegment o l b origin r), claim := some b }).order? o.orderNo
      = some o := ho
  obtain ⟨k, hhas, hnew, horder, hothersN, hsameN⟩ := reserveNote_spec hcorder hfree b
  generalize State.reserveNote o b _ = n at hhas hnew horder hothersN hsameN
  obtain ⟨hnpermits, -, -, hnbays, hnarms, -, -, -, -, hnatt, -, -, hnoutputs, -⟩ := id hsameN
  have hnpermit := permit?_of_permits (hnpermits.resolve_left (by simp))
  have hnarm := arm_of_arms (hnarms.resolve_left (by simp))
  have hnbay := bay_of_bays (hnbays.resolve_left (by simp))
  obtain ⟨hrpermit, hrorder, hrpermits, hrorders, hsameR⟩ := reserved_spec horder (by rw [hnpermit]; exact hp) l r s
  generalize reserved o l r s n = m at hrpermit hrorder hrpermits hrorders hsameR
  obtain ⟨-, -, -, hmbays, hmarms, -, -, hmnotes, -, hmatt, -, -, hmoutputs, -⟩ := id hsameR
  have hmbay : m.bay = s.bay := by rw [bay_of_bays (hmbays.resolve_left (by simp)), hnbay]; rfl
  have hmarm := (arm_of_arms (hmarms.resolve_left (by simp))).trans hnarm
  have hmout : m.outputs = s.outputs := (hmoutputs.resolve_left (by simp)).trans (hnoutputs.resolve_left (by simp))
  have hmatt' : m.att = s.att := (hmatt.resolve_left (by simp)).trans (hnatt.resolve_left (by simp))
  obtain ⟨hbb, hbout, hbmark, hat⟩ := bayAccepts_spec (s := m) (by rw [hmbay]; exact hbay) a l.compartment origin o.orderNo
  have hbat := hat
  generalize m.bayAccepts _ _ = u at hbb hbout hbmark hat hbat
  obtain ⟨hsameB, hothersB, hedges, hocc, hmarks⟩ := hat
  obtain ⟨hupermits, huorders, -, -, huarms, -, -, hunotes, -⟩ := id hsameB
  have huarm := (arm_of_arms (huarms.resolve_left (by simp))).trans hmarm
  have huorder := order?_of_orders (huorders.resolve_left (by simp))
  have hupermit := permit?_of_permits (hupermits.resolve_left (by simp))
  have hunotes' : u.notes = n.notes := (hunotes.resolve_left (by simp)).trans (hmnotes.resolve_left (by simp))
  refine ⟨k, ?_, fun i hi => ?_, fun hn => ?_, ?_, ?_, ?_, ?_, ⟨?_, ?_, fun src hsrc => ?_⟩, ?_, fun c hc => ?_, fun c hc => ?_, fun c hc => ?_,
    fun i hi => ?_, ?_⟩
  · rw [huarm]; exact State.modArm_arm_self _ _ _
  · exact ⟨(hhas i hi).1, hunotes'.trans (hhas i hi).2⟩
  · exact ⟨(hnew hn).1, hunotes'.trans (hnew hn).2⟩
  · rw [hupermit]; exact hrpermit
  · rw [huorder, order?_modOrder _ _ (by exact fun _ => rfl), hrorder]; rfl
  · rw [hbb, hmbay]
  · rw [hbout, hmout]
  · rw [hedges]; exact congrArg _ hmatt'
  · rw [hocc]; exact congrArg _ hmatt'
  · rw [hmarks src (by simpa using hsrc)]; exact congrArg (fun x => Attention.marked x src) hmatt'
  · rw [hmbay] at hbmark; exact hbmark
  · rw [huarm]; exact State.modArm_arm_ne _ hc _
  · rw [hothersB c hc]; exact congrFun hmbay c
  · rw [hupermit]; exact (hrpermits c hc).trans (congrFun hnpermit c)
  · rw [huorder, order?_modOrder_ne _ hi (by exact fun _ => rfl), hrorders i hi, hothersN i hi]; rfl
  · exact same_trans (same_trans (sameExcept_modArm s a _) hsameN (rs := [.orders, .arms, .notes]) (by decide) (by decide))
      (same_trans (same_trans hsameR (by simp [SameExcept] : SameExcept [.orders] m _) (rs := [.permits, .orders]) (by decide) (by decide))
        hsameB (rs := [.permits, .orders, .bays, .att, .outputs]) (by decide) (by decide)) (by decide) (by decide)

end Sys2Proof.Machine.Arming
end

section
/-! A start that passes every check (concluded): the ten checks, START and ARM START. -/

namespace Sys2Proof.Machine.Arming

variable {s t u v : State} {a : ArmId} {b : BayId} {o : Order} {l : Line} {p : Permit} {r : Reservation} {origin : Origin}

/-- A start that passes every check is offered without a refusal (R56). -/
theorem offerStart_accepted (h : StartPasses b a o l p r s) (hbay : (s.bay b).state = .carded ∨ (s.bay b).state = .loading)
    (hidle : (s.arm a).status = .idle) (origin : Origin) :
    s.offerStart ⟨b, a, l.compartment, origin⟩
      = ⟨((s.acceptStart ⟨b, a, l.compartment, origin⟩ o l r).enterProfile a l.product).1, none,
        ((s.acceptStart ⟨b, a, l.compartment, origin⟩ o l r).enterProfile a l.product).2⟩ := by
  obtain ⟨hreach, hbound, ho, hl, hstate, hrem, hproduct, hp, hactive, hfrom, huntil, hendorsed, hcal, hslot, hserial, hr⟩ := h
  have hboundOrder : s.boundOrder? b = some o := by rw [State.boundOrder?, hbound]; exact ho
  have hfree : (o.noteSlot.isSome || s.notes.firstFree.isSome) = true := by
    rcases hslot with h | ⟨k, hk⟩
    · simp [Option.isSome_iff_ne_none.2 h]
    · have : s.notes.firstFree.isSome = true := List.find?_isSome.2 ⟨k, by simp [allSlots], by simpa [State.slot] using hk⟩
      simp [this]
  have hspent : (o.noteSlot.isSome || s.notes.nextSerial.isSome) = true := by
    rcases hserial with h | h <;> simp [Option.isSome_iff_ne_none.2 h]
  have hline : ∀ q ∈ s.lineTests ⟨b, a, l.compartment, origin⟩ o, q.1 = true := by
    unfold State.lineTests
    dsimp only
    rw [hl]
    dsimp only
    rw [hp]
    have hactive' : (l.state != .active) = true := by rcases hstate with h | h <;> rw [h] <;> rfl
    have hloadable : l.loadable = true := by rcases hstate with h | h <;> rw [Line.loadable, h] <;> rfl
    simp [startTests, noteTests, hactive', hloadable, hrem, hproduct, hactive, hfrom, huntil, productClass, hendorsed, hcal, hr]
    exact ⟨by simpa using hfree, by simpa using hspent⟩
  have hpass : firstFailure (s.acceptanceTests ⟨b, a, l.compartment, origin⟩) = none := by
    rw [firstFailure_eq_none]
    unfold State.acceptanceTests Arm.takeTests bayTests
    rw [hidle]
    dsimp only
    rw [hboundOrder]
    dsimp only
    have hproducts : (s.arm a).products ≠ [] := List.ne_nil_of_mem hproduct
    intro q hq
    simp only [List.append_assoc, List.mem_append, List.mem_cons, List.not_mem_nil, or_false, false_or] at hq
    rcases hq with (rfl | rfl) | rfl | hq
    · rcases hbay with h | h <;> rw [h] <;> rfl
    · rcases hbay with h | h <;> rw [h] <;> rfl
    · simp [hreach, hproducts]
    · exact hline q hq
  unfold State.offerStart
  rw [hpass]
  dsimp only
  rw [hboundOrder]
  dsimp only
  rw [hl]
  dsimp only
  rw [hp, Option.bind_some, hr]

/-- The accepted segment, of the line and the permit as the acceptance leaves them. -/
theorem loads_startTaken {k : SlotId} (h : StartTaken b a o l p r origin k s u) (hbound : (s.bay b).boundOrder = some o.orderNo)
    (hl : o.line? l.compartment = some l) (hused : p.used ≤ 9999999) :
    ∃ o', o'.noteSlot = some k ∧ Loads a (acceptedSegment o l b origin r) o' { l with state := .active, snapshot := snapshotAt s l }
      { p with reserved := p.reserved + r.reservedL } u := by
  obtain ⟨harm, -, -, hpermit, horder, hbay, -⟩ := h
  have hline := line?_modLine o l.compartment (f := fun x => { x with state := .active, snapshot := snapshotAt s x }) fun _ => rfl
  refine ⟨_, rfl, ⟨by rw [State.seg?, harm]; rfl, rfl, rfl, by simp [acceptedSegment, freshSegment], ?_, ?_, horder, ?_, hpermit, hused⟩⟩
  · show (u.bay b).boundOrder = some o.orderNo
    rw [hbay]; exact hbound
  · show (u.bay b).state = .loading
    rw [hbay]
  · rw [hl] at hline
    simpa [Order.modLine, Order.line?, acceptedSegment, freshSegment] using hline

/-- What an offered start that passes every check brings. -/
theorem accepted_settle (h : StartPasses b a o l p r s) (hbay : (s.bay b).state = .carded ∨ (s.bay b).state = .loading)
    (hidle : (s.arm a).status = .idle) (hused : p.used ≤ 9999999) (origin : Origin) :
    ∃ u k, StartTaken b a o l p r origin k s u ∧ Acquires a (acceptedSegment o l b origin r) k u
      (settle ((s.offerStart ⟨b, a, l.compartment, origin⟩).state, (s.offerStart ⟨b, a, l.compartment, origin⟩).jobs)) := by
  rw [offerStart_accepted h hbay hidle]
  obtain ⟨-, hbound, ho, hl, -, -, -, hp, -, -, -, -, -, hslot, -⟩ := h
  obtain ⟨k, htaken⟩ := startTaken_acceptStart hidle hbay ho hp hslot r l origin
  obtain ⟨o', hk, hloads⟩ := loads_startTaken htaken hbound hl hused
  exact ⟨_, k, htaken, acquires_enterProfile hloads rfl rfl rfl hk (by decide)⟩

/-! ## The frames -/

/-- The restart of the card idle timer is lost in the acceptance (R39, R40). -/
theorem startTaken_touch {k : SlotId} (h : StartTaken b a o l p r origin k (s.touch b) u) : StartTaken b a o l p r origin k s u := by
  unfold State.touch at h
  split at h
  · next hc =>
    obtain ⟨harm, hhas, hnew, hpermit, horder, hb, hout, hmarks, hmark, hothers, hbays, hpermits, horders, hsame⟩ := h
    refine ⟨harm, hhas, hnew, hpermit, horder, ?_, hout, hmarks, fun _ => hmark (by rw [State.modBay_bay_self]; exact hc), hothers,
      fun c hcb => ?_, hpermits, horders, same_trans (atBay_modBay s b _).same hsame (by decide) (by decide)⟩
    · rw [hb, State.modBay_bay_self]
      dsimp only
      rw [if_pos hc, if_pos hc]
    · rw [hbays c hcb, State.modBay_bay_ne _ hcb]
  · exact h

theorem startPasses_touch (h : StartPasses b a o l p r s) (hidle : (s.arm a).status = .idle)
    (hbay : (s.bay b).state = .carded ∨ (s.bay b).state = .loading) :
    StartPasses b a o l p r (s.touch b) ∧ ((s.touch b).arm a).status = .idle
      ∧ (((s.touch b).bay b).state = .carded ∨ ((s.touch b).bay b).state = .loading) ∧ (s.touch b).armServes a b = false := by
  have hseg : s.armServes a b = false := by simp [State.armServes, State.seg?, Arm.seg?, hidle]
  unfold State.touch
  split
  · obtain ⟨hreach, hbound, ho, hl, hstate, hrem, hrest⟩ := h
    refine ⟨⟨hreach, ?_, ho, hl, hstate, hrem, hrest⟩, hidle, ?_, hseg⟩
    · rw [State.modBay_bay_self]; exact hbound
    · rw [State.modBay_bay_self]; exact hbay
  · exact ⟨h, hidle, hbay, hseg⟩

/-- An ARM START of an arm in no segment (R60). -/
theorem armStart_owner (hserves : s.armServes a b = false) {c : Nat} (h1 : 1 ≤ c) (h8 : c ≤ 8)
    (hnone : (s.offerStart ⟨b, a, c, .host⟩).refusal = none) : owner 0x32 (b1 b.val ++ b1 a.val ++ b1 c) s
      = ((s.offerStart ⟨b, a, c, .host⟩).state, .ok [], (s.offerStart ⟨b, a, c, .host⟩).jobs) := by
  generalize hb : b1 b.val ++ b1 a.val ++ b1 c = body
  have hbody : body = b1 b.val ++ (b1 a.val ++ (b1 c ++ [])) := by rw [← hb]; simp
  have hb0 : u8 body 0 = b.val := by rw [hbody, u8_zero_b1_append, Nat.mod_eq_of_lt (by omega)]
  have hb1 : u8 body 1 = a.val := by rw [hbody, u8_one_b1_append (by omega)]
  have hb2 : u8 body 2 = c := by rw [hbody, u8_two_b1_append (by omega)]
  show armStart body s = _
  unfold armStart
  rw [if_neg (by simp [hbody]), hb0, hb1, hb2, bayOf_val, armOf_val]
  dsimp only
  rw [if_neg (by simp [compartmentValid, h1, h8]), hserves, hnone]
  rfl

/-- Settles O25. -/
theorem startAccepted : Obligations.StartAccepted := by
  unfold Obligations.StartAccepted
  intro s b a o l p r tag h1 h8 hbay hidle h hused body effects
  refine ⟨⟨_, rfl, ?_⟩, fun hlink => ?_⟩
  · obtain ⟨h', hidle', hbay', hserves⟩ := startPasses_touch h hidle hbay
    have hvalid : compartmentValid l.compartment = true := by simp [compartmentValid, h1, h8]
    obtain ⟨u, k, htaken, hacquires⟩ := accepted_settle h' hbay' hidle' hused .panel
    have hnone := congrArg Offered.refusal (offerStart_accepted h' hbay' hidle' .panel)
    refine ⟨u, k, startTaken_touch htaken, ?_⟩
    rw [armOf_val]
    dsimp only
    rw [if_pos hvalid, State.startFrame, hserves, if_neg (by simp)]
    dsimp only
    rw [hnone]
    exact hacquires
  · have hserves : s.armServes a b = false := by simp [State.armServes, State.seg?, Arm.seg?, hidle]
    have hnone := congrArg Offered.refusal (offerStart_accepted h hbay hidle .host)
    exact ⟨_, congrArg Host.Outcome.next (offer_owner hlink (armStart_owner hserves h1 h8 hnone)), accepted_settle h hbay hidle hused .host⟩

end Sys2Proof.Machine.Arming
end

section
/-! ARM SET, ARM GET and ARM CLEAR (R52, R77, R78, R195). -/

namespace Sys2Proof.Machine.Arming

variable {s t : State} {a : ArmId}

/-! ## ARM SET -/

/-- The body of an ARM SET, read field by field. -/
structure SetBody (body : List Byte) (a : Nat) (bays products : List Nat) : Prop where
  length : body.length = 3 + bays.length + 2 * products.length
  arm : u8 body 0 = a
  bayCount : u8 body 1 = bays.length
  reach : u8s body 2 bays.length = bays
  productCount : u8 body (2 + bays.length) = products.length
  codes : u16s body (3 + bays.length) products.length = products

theorem setBody_read {a : Nat} {bays products : List Nat} (ha : a ≤ 255) (hbays : ∀ x ∈ bays, x ≤ 255) (hproducts : ∀ p ∈ products, p ≤ 65535)
    (hlen : bays.length ≤ 255) (hlen' : products.length ≤ 255) :
    SetBody (b1 a ++ b1 bays.length ++ bays.flatMap b1 ++ b1 products.length ++ products.flatMap b2) a bays products := by
  generalize hb : b1 a ++ b1 bays.length ++ bays.flatMap b1 ++ b1 products.length ++ products.flatMap b2 = body
  have hbody : body = b1 a ++ (b1 bays.length ++ (bays.flatMap b1 ++ (b1 products.length ++ (products.flatMap b2 ++ [])))) := by
    rw [← hb]; simp
  refine ⟨?_, ?_, ?_, ?_, ?_, ?_⟩
  · rw [hbody]
    simp only [List.length_append, b1_length, flatMap_b1_length, flatMap_b2_length, List.length_nil]
    omega
  · rw [hbody, u8_zero_b1_append, Nat.mod_eq_of_lt (by omega)]
  · rw [hbody, u8_one_b1_append hlen]
  · have := u8s_flatMap (b1 a ++ b1 bays.length) (b1 products.length ++ (products.flatMap b2 ++ [])) bays hbays
    simpa [hbody] using this
  · have := u8_last (x := b1 a ++ b1 bays.length ++ bays.flatMap b1) (n := products.length) (i := 2 + bays.length) hlen'
      (by simp only [List.length_append, b1_length, flatMap_b1_length]) (products.flatMap b2 ++ [])
    simpa [hbody] using this
  · have := u16s_flatMap (b1 a ++ b1 bays.length ++ bays.flatMap b1 ++ b1 products.length) [] products hproducts
    have hx : (b1 a ++ b1 bays.length ++ bays.flatMap b1 ++ b1 products.length).length = 3 + bays.length := by
      simp only [List.length_append, b1_length, flatMap_b1_length]
      omega
    rw [hx] at this
    rw [hbody]
    simpa using this

theorem bayOf_isSome (x : Nat) : (bayOf x).isSome = true ↔ x ≤ 7 := by
  unfold bayOf
  split <;> simp <;> omega

/-- The reach that a list of bay numbers names, if it names one (R52). -/
theorem readReach_isSome (bays : List Nat) : (readReach bays).isSome = true ↔
    (∃ x, bays = [x] ∧ x ≤ 7) ∨ ∃ x y, bays = [x, y] ∧ x ≤ 7 ∧ y ≤ 7 ∧ (x + 1 = y ∨ y + 1 = x) := by
  match bays with
  | [] => simp [readReach]
  | [x] => simp [readReach, bayOf_isSome]
  | [x, y] =>
    have hx := bayOf_isSome x
    have hy := bayOf_isSome y
    simp only [readReach, List.cons.injEq, List.cons_ne_nil, and_false, false_and, exists_false, false_or]
    constructor
    · intro h
      refine ⟨x, y, ⟨rfl, rfl, trivial⟩, ?_⟩
      cases hbx : bayOf x with
      | none => rw [hbx] at h; cases h
      | some b =>
        cases hby : bayOf y with
        | none => rw [hbx, hby] at h; cases h
        | some c =>
          rw [hbx, hby] at h
          rw [hbx] at hx
          rw [hby] at hy
          refine ⟨hx.1 rfl, hy.1 rfl, ?_⟩
          dsimp only at h
          split at h
          · next hxy => exact .inl hxy
          · split at h
            · next hyx => exact .inr hyx
            · cases h
    · rintro ⟨x', y', ⟨rfl, rfl, -⟩, hx7, hy7, hadj⟩
      obtain ⟨b, hb⟩ := Option.isSome_iff_exists.1 (hx.2 hx7)
      obtain ⟨c, hc⟩ := Option.isSome_iff_exists.1 (hy.2 hy7)
      rw [hb, hc]
      dsimp only
      split
      · rfl
      · next hne => rw [if_pos (hadj.resolve_left hne)]; rfl
  | _ :: _ :: _ :: _ => simp [readReach]

theorem productsValid_iff (ps : List Nat) : productsValid ps = true ↔
    ps ≠ [] ∧ ps.length ≤ 4 ∧ ps.Nodup ∧ ∀ p ∈ ps, 1 ≤ p ∧ p ≤ 9999 := by
  have hne : ps ≠ [] ↔ 1 ≤ ps.length := by rw [← List.length_pos_iff]; rfl
  rw [hne]
  simp [productsValid, and_assoc]

/-- ARM SET by what its body reads: the arm, the reach and the product set, each valid, or BAD_VALUE (R52). -/
theorem armSet_eq {body : List Byte} {n : Nat} {bays products : List Nat} (h : SetBody body n bays products) (s : State) :
    armSet body s = (armOf n).elim (s, .refuse .badValue) fun a => (readReach bays).elim (s, .refuse .badValue) fun reach =>
      if productsValid products then setArm a reach products s else (s, .refuse .badValue) := by
  unfold armSet
  dsimp only
  rw [h.bayCount, h.productCount, h.arm, h.reach, h.codes, h.length, if_neg (by simp)]
  cases armOf n <;> cases readReach bays <;> rfl

theorem armSet_refused {body : List Byte} {n : Nat} {bays products : List Nat} (h : SetBody body n bays products)
    (hbad : 23 < n ∨ readReach bays = none ∨ productsValid products = false) (s : State) : armSet body s = (s, .refuse .badValue) := by
  rw [armSet_eq h]
  have harm : 23 < n → armOf n = none := fun hn => by unfold armOf; rw [dif_neg (by omega)]
  rcases hbad with hn | hr | hp
  · rw [harm hn]; rfl
  · rw [hr]; cases armOf n <;> rfl
  · rw [hp]; cases armOf n <;> cases readReach bays <;> rfl

/-- A body that R52 refuses reads an arm, a reach or a product set that the model refuses. -/
theorem refusal_reads {n : Nat} {bays products : List Nat}
    (h : 23 < n ∨ ¬ ((∃ x, bays = [x] ∧ x ≤ 7) ∨ ∃ x y, bays = [x, y] ∧ x ≤ 7 ∧ y ≤ 7 ∧ (x + 1 = y ∨ y + 1 = x)) ∨ products = []
      ∨ 4 < products.length ∨ ¬ products.Nodup ∨ ∃ p ∈ products, p = 0 ∨ 9999 < p) :
    23 < n ∨ readReach bays = none ∨ productsValid products = false := by
  rcases h with h | h | h
  · exact .inl h
  · exact .inr (.inl (Option.not_isSome_iff_eq_none.1 (mt (readReach_isSome bays).1 h)))
  · refine .inr (.inr (Bool.eq_false_iff.2 (mt (productsValid_iff products).1 ?_)))
    rintro ⟨h0, h4, hnd, hr⟩
    rcases h with h | h | h | ⟨p, hp, h⟩
    · exact h0 h
    · omega
    · exact h hnd
    · have := hr p hp
      omega

theorem armSet_valid {body : List Byte} {bays products : List Nat} {reach : List BayId} (h : SetBody body a.val bays products)
    (hr : readReach bays = some reach) (hp : productsValid products = true) (s : State) : armSet body s = setArm a reach products s := by
  rw [armSet_eq h, armOf_val, hr, hp]; rfl

/-! ## ARM GET -/

theorem flag1_eq (p : Bool) : flag1 p = b1 (if p then 1 else 0) := by cases p <;> rfl

theorem stageCode_eq (g : Segment) : g.stage.code
    = if g.phase = .lowStart ∨ g.phase = .lowStop then 1 else if g.phase = .high then (if g.cap then 1 else 2) else 0 := by
  unfold Segment.stage
  cases g.phase <;> cases g.cap <;> rfl

theorem reachBytes_eq (reach : List BayId) : (padTo 2 0xFF (reach.map (·.val))).flatMap b1
    = b1 (((reach[0]?).map (·.val)).getD 0xFF) ++ b1 (((reach[1]?).map (·.val)).getD 0xFF) := by
  simp [padTo, List.range_succ, List.getD_eq_getElem?_getD]

theorem productBytes_eq (products : List Nat) : (padTo 4 0 products).flatMap b2
    = b2 (products.getD 0 0) ++ b2 (products.getD 1 0) ++ b2 (products.getD 2 0) ++ b2 (products.getD 3 0) := by
  simp [padTo, List.range_succ]

theorem flagWord_eq (g : Segment) : g.flagWord = (if g.mixedCal then 1 else 0) + (if g.tempHeld then 2 else 0)
    + (if g.uncompensated then 4 else 0) + (if g.trimmed then 8 else 0) + g.undosed.toNat * 16 + g.doseFault.toNat * 128 := by
  have hbit : ∀ (p : Bool) (n : Nat), p.toNat * n = if p then n else 0 := fun p n => by cases p <;> simp
  simp only [Segment.flagWord, hbit]
  cases g.mixedCal <;> rfl

/-! ## The requests that name an arm -/

theorem onArm_val (a : ArmId) (s : State) (f : ArmId → State × Answer × List Job) : onArm (b1 a.val) s f = f a := by
  unfold onArm
  rw [if_neg (by simp), u8_b1 (by omega), armOf_val]

theorem onArm_refused {n : Nat} (h : 23 < n) (h' : n ≤ 255) (s : State) (f : ArmId → State × Answer × List Job) :
    onArm (b1 n) s f = (s, .refuse .badValue, []) := by
  have harm : armOf n = none := by unfold armOf; rw [dif_neg (by omega)]
  unfold onArm
  rw [if_neg (by simp), u8_b1 h', harm]

theorem armClear_notFault (h : (s.arm a).status ≠ .fault) : armClear (b1 a.val) s = (s, .wrongState none, []) := by
  unfold armClear
  rw [onArm_val]
  cases hs : (s.arm a).status with
  | fault => exact absurd hs h
  | _ => rfl

theorem armClear_fault (h : (s.arm a).status = .fault) : armClear (b1 a.val) s = (s.setArmStatus a .idle, .ok [], []) := by
  unfold armClear
  rw [onArm_val, h]

/-- A FAULT arm back at IDLE: its clearance marks it unless onsets alone are selected (R78, R168). -/
theorem setArmStatus_cleared (h : (s.arm a).status = .fault) :
    (s.setArmStatus a .idle).arm a = { s.arm a with status := .idle }
      ∧ (s.att.edges.arm ≠ .onset → (s.setArmStatus a .idle).att.armMarks[a] = true)
      ∧ OtherArms a s (s.setArmStatus a .idle) ∧ SameExcept [.arms, .att] s (s.setArmStatus a .idle) := by
  refine ⟨by simp, fun hsel => ?_, fun c hc => setArmStatus_arm_ne hc _ _, by simp [SameExcept]⟩
  have hmark := (levelChange_marks (s.modArm a fun x => { x with status := .idle }) (.arm a) s.att.edges.arm
    (s.arm a).status.level ArmStatus.idle.level).1
  rw [h, show ArmStatus.fault.level = true from rfl, show ArmStatus.idle.level = false from rfl] at hmark
  have hset : (s.setArmStatus a .idle).att.marked (.arm a) = true := by
    rw [State.setArmStatus, h]
    exact hmark.trans (by simp [markAfter, hsel])
  exact hset

/-- Settles O28. -/
theorem armRequests : Obligations.ArmRequests := by
  unfold Obligations.ArmRequests
  constructor
  · intro s tag n bays products hlink hn hbays hproducts hlen body reaches
    refine ⟨fun hbad => ?_, fun hn' => ⟨?_, ?_, ?_⟩⟩
    · have hbody := setBody_read hn hbays hproducts (by omega) (by omega)
      have hset := armSet_refused hbody (refusal_reads hbad) s
      exact congrArg Host.Outcome.next (offer_plain hlink (by show (_, _, _) = _; rw [hset]; rfl))
    · exact congrArg Host.Outcome.next (offer_plain hlink (onArm_refused hn' hn s _))
    · exact congrArg Host.Outcome.next (offer_plain hlink (onArm_refused hn' hn s _))
    · exact congrArg Host.Outcome.next (offer_plain hlink (onArm_refused hn' hn s _))
  · intro s tag a b products hlink h1 h4 hnodup hproducts one two bit bayByte period segment
    have hvalid : productsValid products = true := (productsValid_iff products).2
      ⟨List.ne_nil_of_length_pos h1, h4, hnodup, hproducts⟩
    have hp16 : ∀ p ∈ products, p ≤ 65535 := fun p hp => le_trans (hproducts p hp).2 (by decide)
    have hone : SetBody one a.val [b.val] products := by
      have := setBody_read (a := a.val) (bays := [b.val]) (products := products) (by omega) (by simp; omega) hp16 (by simp) (by omega)
      simpa [one] using this
    have hreach : readReach [b.val] = some [b] := by simp [readReach]
    refine ⟨fun hidle hclaim => ⟨?_, fun hlt => ?_⟩, fun hbusy => ?_, ?_, fun hfault => ?_, fun hne => ?_⟩
    · have hset : armSet one s = (s.modArm a fun x => { x with reach := [b], products := products }, .ok []) := by
        rw [armSet_valid hone hreach hvalid, setArm, hidle, hclaim]; rfl
      exact congrArg Host.Outcome.next (offer_plain hlink (by show (_, _, _) = _; rw [hset]; rfl))
    · have htwo : SetBody two a.val [b.val, b.val + 1] products := by
        have := setBody_read (a := a.val) (bays := [b.val, b.val + 1]) (products := products) (by omega) (by simp; omega) hp16 (by simp) (by omega)
        simpa [two] using this
      have hreach : readReach [b.val, b.val + 1] = some [b, ⟨b.val + 1, hlt⟩] := by
        simp [readReach, bayOf, hlt]
      have hset : armSet two s = (s.modArm a fun x => { x with reach := [b, ⟨b.val + 1, hlt⟩], products := products }, .ok []) := by
        rw [armSet_valid htwo hreach hvalid, setArm, hidle, hclaim]; rfl
      exact congrArg Host.Outcome.next (offer_plain hlink (by show (_, _, _) = _; rw [hset]; rfl))
    · have hset : armSet one s = (s, .refuse .inUse) := by
        rw [armSet_valid hone hreach hvalid, setArm, if_neg]
        simpa [imp_iff_not_or] using hbusy
      exact congrArg Host.Outcome.next (offer_plain hlink (by show (_, _, _) = _; rw [hset]; rfl))
    · refine congrArg Host.Outcome.next (offer_plain hlink (t := s) ((onArm_val a s _).trans ?_))
      have hperiod : ∀ r, periodBytes r = period r := by
        intro r
        cases r with
        | none => rfl
        | some q => cases hq : q.temp <;> simp only [periodBytes, period, hq] <;> rfl
      have hsegment : ∀ g : Segment, g.bytes = segment g := by
        intro g
        unfold Segment.bytes
        rw [flag1_eq, flag1_eq, stageCode_eq, flagWord_eq, hperiod]
        rfl
      unfold Arm.bytes
      rw [reachBytes_eq, productBytes_eq, List.append_assoc _ (flag1 _)]
      refine congrArg (fun bytes => (s, Answer.ok bytes, [])) (congrArg₂ (· ++ ·) (congrArg₂ (· ++ ·) (congrArg₂ (· ++ ·) ?_ ?_) ?_) ?_)
      · simp only [List.append_assoc]
        rfl
      · unfold Arm.waitBytes
        cases (s.arm a).status <;> rfl
      · cases (s.arm a).lastEnd with
        | none => rfl
        | some e =>
          unfold lastEndBytes
          dsimp only
          rw [flag1_eq]
      · unfold State.seg?
        cases (s.arm a).seg? with
        | none => rfl
        | some g =>
          rw [Option.map_some, Option.getD_some, hsegment]
          rfl
    · obtain ⟨harm, hmark, hother, hsame⟩ := setArmStatus_cleared hfault
      exact ⟨s.setArmStatus a .idle, congrArg Host.Outcome.next (offer_plain hlink (armClear_fault hfault)), harm, hmark, hother, hsame⟩
    · exact congrArg Host.Outcome.next (offer_plain hlink (armClear_notFault hne))

end Sys2Proof.Machine.Arming
end

section
/-! A profile in a body: its layout read back (R198), and what R111 asks of it. -/

namespace Sys2Proof.Machine.Arming

/-- A profile as it is written into a body (R198). -/
def profileBytes (p : ProfileBody) : List Byte :=
  b1 p.meter ++ b2 p.base ++ b1 p.span ++ b1 p.priority ++ b4 p.kn ++ b2 p.alpha ++ b4 p.lowStart ++ b4 p.slowStop ++ b4 p.closeAdvance
    ++ b4 p.overrunTol ++ b2 p.calSerial ++ b1 p.curve.length ++ p.curve.flatMap fun c => b2 c.q ++ b4 c.mf

/-- Every field of a profile fits its place in the layout. -/
structure Fits (p : ProfileBody) : Prop where
  meter : p.meter ≤ 255
  base : p.base ≤ 65535
  span : p.span ≤ 255
  priority : p.priority ≤ 255
  kn : p.kn ≤ 4294967295
  alpha : p.alpha ≤ 65535
  lowStart : p.lowStart ≤ 4294967295
  slowStop : p.slowStop ≤ 4294967295
  closeAdvance : p.closeAdvance ≤ 4294967295
  overrunTol : p.overrunTol ≤ 4294967295
  calSerial : p.calSerial ≤ 65535
  count : p.curve.length ≤ 255
  points : ∀ c ∈ p.curve, c.q ≤ 65535 ∧ c.mf ≤ 4294967295

theorem pointBytes_length (cs : List CurvePoint) : (cs.flatMap fun c => b2 c.q ++ b4 c.mf).length = 6 * cs.length := by
  induction cs with
  | nil => rfl
  | cons c cs ih =>
    rw [List.flatMap_cons, List.length_append, ih, List.length_cons]
    simp only [List.length_append, b2_length, b4_length]
    omega

/-- The points of a curve behind other bytes, read back. -/
theorem points_read (x : List Byte) (cs : List CurvePoint) (h : ∀ c ∈ cs, c.q ≤ 65535 ∧ c.mf ≤ 4294967295) :
    (List.range cs.length).map (fun j => (⟨u16 (x ++ cs.flatMap fun c => b2 c.q ++ b4 c.mf) (x.length + 6 * j),
      u32 (x ++ cs.flatMap fun c => b2 c.q ++ b4 c.mf) (x.length + 2 + 6 * j)⟩ : CurvePoint)) = cs := by
  induction cs generalizing x with
  | nil => rfl
  | cons c cs ih =>
    obtain ⟨hq, hmf⟩ := h c (by simp)
    have htail := ih (x ++ (b2 c.q ++ b4 c.mf)) fun d hd => h d (by simp [hd])
    have hshift : x ++ ((c :: cs).flatMap fun c => b2 c.q ++ b4 c.mf)
        = (x ++ (b2 c.q ++ b4 c.mf)) ++ cs.flatMap fun c => b2 c.q ++ b4 c.mf := by simp
    have hlen : (x ++ (b2 c.q ++ b4 c.mf)).length = x.length + 6 := by simp
    rw [hlen] at htail
    rw [hshift, List.length_cons, List.range_succ_eq_map, List.map_cons, List.map_map]
    refine congrArg₂ List.cons ?_ ?_
    · rw [u16_append_left (by omega), u32_append_left (by omega), u16_append_right (by omega), u32_append_right (by omega),
        show x.length + 6 * 0 - x.length = 0 by omega, show x.length + 2 + 6 * 0 - x.length = 2 by omega, u16_append_left (by simp),
        u32_append_right (by simp), u16_b2 hq]
      simp only [b2_length, Nat.sub_self, u32_b4 hmf]
    · refine Eq.trans (List.map_congr_left fun j _ => ?_) htail
      simp only [Function.comp]
      rw [show x.length + 6 * j.succ = x.length + 6 + 6 * j by omega, show x.length + 2 + 6 * j.succ = x.length + 6 + 2 + 6 * j by omega]

/-! ## Fields one after the other -/

section
variable {x y : List Byte} {i k n : Nat}

theorem u8_skip (h : x.length = k) : u8 (x ++ y) (i + k) = u8 y i := by
  rw [u8_append_right (by omega), h, Nat.add_sub_cancel]

theorem u16_skip (h : x.length = k) : u16 (x ++ y) (i + k) = u16 y i := by
  rw [u16_append_right (by omega), h, Nat.add_sub_cancel]

theorem u32_skip (h : x.length = k) : u32 (x ++ y) (i + k) = u32 y i := by
  rw [u32_append_right (by omega), h, Nat.add_sub_cancel]

theorem u8_first (h : n ≤ 255) : u8 (b1 n ++ y) 0 = n := by rw [u8_append_left (by simp), u8_b1 h]

theorem u16_first (h : n ≤ 65535) : u16 (b2 n ++ y) 0 = n := by rw [u16_append_left (by simp), u16_b2 h]

theorem u32_first (h : n ≤ 4294967295) : u32 (b4 n ++ y) 0 = n := by rw [u32_append_left (by simp), u32_b4 h]

end

theorem profileBytes_length (p : ProfileBody) : (profileBytes p).length = 30 + 6 * p.curve.length := by
  unfold profileBytes
  rw [List.length_append, pointBytes_length]
  simp

theorem u8_count {p : ProfileBody} (h : Fits p) : u8 (profileBytes p) 29 = p.curve.length := by
  have hread := u8_last (x := b1 p.meter ++ b2 p.base ++ b1 p.span ++ b1 p.priority ++ b4 p.kn ++ b2 p.alpha ++ b4 p.lowStart ++ b4 p.slowStop
    ++ b4 p.closeAdvance ++ b4 p.overrunTol ++ b2 p.calSerial) h.count (by simp) (p.curve.flatMap fun c => b2 c.q ++ b4 c.mf) (i := 29)
  rw [← List.append_assoc] at hread
  exact hread

/-- A profile reads back as it was written (R198). -/
theorem readProfileBody_profileBytes {p : ProfileBody} (h : Fits p) : readProfileBody (profileBytes p) = p := by
  have hcurve := points_read (b1 p.meter ++ b2 p.base ++ b1 p.span ++ b1 p.priority ++ b4 p.kn ++ b2 p.alpha ++ b4 p.lowStart ++ b4 p.slowStop
    ++ b4 p.closeAdvance ++ b4 p.overrunTol ++ b2 p.calSerial ++ b1 p.curve.length) p.curve h.points
  have hpoints : (List.range (u8 (profileBytes p) 29)).map (fun j => (⟨u16 (profileBytes p) (30 + 6 * j),
      u32 (profileBytes p) (32 + 6 * j)⟩ : CurvePoint)) = p.curve := by rw [u8_count h]; exact hcurve
  unfold readProfileBody
  rw [hpoints]
  clear hpoints hcurve
  cases p with
  | mk meter base span priority kn alpha lowStart slowStop closeAdvance overrunTol calSerial curve =>
    obtain ⟨h1, h2, h3, h4, h5, h6, h7, h8, h9, h10, h11, -, -⟩ := h
    dsimp only at h1 h2 h3 h4 h5 h6 h7 h8 h9 h10 h11
    simp only [profileBytes, List.append_assoc, u8_skip (b1_length _), u8_skip (b2_length _), u16_skip (b1_length _),
      u16_skip (b2_length _), u16_skip (b4_length _), u32_skip (b1_length _), u32_skip (b2_length _), u32_skip (b4_length _), u8_first h1,
      u16_first h2, u8_first h3, u8_first h4, u32_first h5, u16_first h6, u32_first h7, u32_first h8, u32_first h9, u32_first h10, u16_first h11]

/-! ## What R111 asks -/

theorem ascending_iff (cs : List CurvePoint) : ascending cs = true ↔ cs.Pairwise fun c d => c.q < d.q := by
  induction cs with
  | nil => simp [ascending]
  | cons c cs ih =>
    cases cs with
    | nil => simp [ascending]
    | cons d cs =>
      rw [ascending, Bool.and_eq_true, ih, List.pairwise_cons (a := c), decide_eq_true_eq]
      refine and_congr_left fun hp => ⟨fun hcd e he => ?_, fun h => h d (by simp)⟩
      rcases List.mem_cons.1 he with rfl | he
      · exact hcd
      · exact lt_trans hcd ((List.pairwise_cons.1 hp).1 e he)

theorem valid_iff (p : ProfileBody) : p.valid = true ↔ p.meter ≤ 23 ∧ p.span ≤ 3 ∧ 1 ≤ p.base ∧ p.base ≤ 9999 ∧ p.base % 10 ^ p.span = 0
    ∧ p.priority ≤ 2 ∧ 1000 ≤ p.kn ∧ p.kn ≤ 2000000 ∧ 2 ≤ p.curve.length ∧ p.curve.length ≤ 6
    ∧ (∀ c ∈ p.curve, c.q ≤ 9999 ∧ 90000 ≤ c.mf ∧ c.mf ≤ 110000) ∧ (p.curve.Pairwise fun c d => c.q < d.q)
    ∧ p.alpha ≤ 2500 ∧ p.lowStart ≤ 2000000 ∧ p.slowStop ≤ 2000000 ∧ p.closeAdvance ≤ 200000 ∧ p.overrunTol ≤ 1000000 := by
  rw [← ascending_iff]
  simp [ProfileBody.valid, and_assoc]

/-- What R111 refuses is not valid. -/
theorem not_valid {p : ProfileBody} (h : 23 < p.meter ∨ 3 < p.span ∨ p.base = 0 ∨ 9999 < p.base ∨ p.base % 10 ^ p.span ≠ 0 ∨ 2 < p.priority
    ∨ p.kn < 1000 ∨ 2000000 < p.kn ∨ p.curve.length < 2 ∨ 6 < p.curve.length
    ∨ (∃ c ∈ p.curve, 9999 < c.q ∨ c.mf < 90000 ∨ 110000 < c.mf) ∨ ¬ p.curve.Pairwise (fun c d => c.q < d.q) ∨ 2500 < p.alpha
    ∨ 2000000 < p.lowStart ∨ 2000000 < p.slowStop ∨ 200000 < p.closeAdvance ∨ 1000000 < p.overrunTol) : p.valid = false := by
  rw [Bool.eq_false_iff]
  intro hvalid
  obtain ⟨h1, h2, h3, h4, h5, h6, h7, h8, h9, h10, hpoints, hpairs, h13, h14, h15, h16, h17⟩ := (valid_iff p).1 hvalid
  have hno : ¬ ∃ c ∈ p.curve, 9999 < c.q ∨ c.mf < 90000 ∨ 110000 < c.mf := by
    rintro ⟨c, hc, hout⟩
    have := hpoints c hc
    omega
  simp only [hno, hpairs, not_true_eq_false, false_or] at h
  omega

/-- The event of a PROFILE LOAD, by what its profile's placement makes of it. -/
theorem profileLoad_written {p : ProfileBody} (h : Fits p) (s : State) :
    profileLoad (profileBytes p) s = if p.valid then loadProfile p s else (s, .refuse .badValue, none) := by
  unfold profileLoad
  rw [readProfileBody_profileBytes h, u8_count h, profileBytes_length, if_neg (by simp)]
  cases p.valid <;> rfl

end Sys2Proof.Machine.Arming
end

section
/-! Where a PROFILE LOAD puts its entry (R112), and the want that the entry satisfies (R61, R109, R112). -/

namespace Sys2Proof.Machine.Arming

variable {s t u v x : State} {c : Cache} {meter base span : Nat} {e : EntryId}

/-! ## The placement -/

/-- The valid, non-dropping entry of a tag. -/
def Tagged (c : Cache) (meter base span : Nat) (e : EntryId) : Prop :=
  ∃ x, c.entries[e] = some x ∧ x.meter = meter ∧ x.base = base ∧ x.span = span ∧ x.dropping = false

theorem tagged_eq_none (h : ∀ f, ¬ Tagged c meter base span f) : c.tagged meter base span false = none := by
  cases hf : c.tagged meter base span false with
  | none => rfl
  | some f =>
    obtain ⟨x, hx, ⟨hm, hb, hs⟩, hd⟩ := tagged_some hf
    exact absurd ⟨x, hx, hm, hb, hs, hd⟩ (h f)

theorem tagged_eq_some (h : Tagged c meter base span e) (honly : ∀ f, Tagged c meter base span f → f = e) :
    c.tagged meter base span false = some e := by
  cases hf : c.tagged meter base span false with
  | none =>
    obtain ⟨x, hx, hm, hb, hs, hd⟩ := h
    exact absurd hd (tagged_none hf hx hm hb hs)
  | some f =>
    obtain ⟨x, hx, ⟨hm, hb, hs⟩, hd⟩ := tagged_some hf
    rw [honly f ⟨x, hx, hm, hb, hs, hd⟩]

theorem placement_inPlace (h : Tagged c meter base span e) (honly : ∀ f, Tagged c meter base span f → f = e) :
    c.placement meter base span = .inPlace e := by
  unfold Cache.placement
  rw [tagged_eq_some h honly]

/-- The lowest invalid slot. -/
theorem placement_freeSlot (hno : ∀ f, ¬ Tagged c meter base span f) (h : c.entries[e] = none) (hmin : ∀ f, f < e → c.entries[f] ≠ none) :
    c.placement meter base span = .freeSlot e := by
  have hfind : (allEntries.find? fun f => c.entries[f].isNone) = some e := by
    rw [List.find?_eq_some_iff_getElem]
    refine ⟨by rw [h]; rfl, e.val, by simp [allEntries], by simp [allEntries], fun i hi => ?_⟩
    have := hmin ⟨i, by omega⟩ hi
    simpa [allEntries] using Option.isSome_iff_ne_none.2 this
  unfold Cache.placement
  rw [tagged_eq_none hno]
  dsimp only
  rw [hfind]

theorem placement_full (hno : ∀ f, ¬ Tagged c meter base span f) (hfull : ∀ f : EntryId, c.entries[f] ≠ none) :
    c.placement meter base span = c.victim.elim .pinned .evicted := by
  have hfind : (allEntries.find? fun f => c.entries[f].isNone) = none := by
    rw [List.find?_eq_none]
    intro f _ hf
    exact hfull f (Option.isNone_iff_eq_none.1 hf)
  unfold Cache.placement
  rw [tagged_eq_none hno]
  dsimp only
  rw [hfind]
  cases c.victim <;> rfl

/-- The unpinned entry of a priority furthest from the front. -/
def furthest (c : Cache) (pr : Priority) : Option EntryId :=
  c.recency.reverse.find? fun e => c.entries[e].any fun x => x.pinCount == 0 && x.priority == pr

theorem victim_eq (c : Cache) : c.victim = ((furthest c .low).or (furthest c .medium)).or (furthest c .high) := by
  show List.findSome? (furthest c) [.low, .medium, .high] = _
  simp only [List.findSome?]
  cases furthest c .low <;> cases furthest c .medium <;> cases furthest c .high <;> rfl

theorem furthest_eq_some {y : Entry} {before after : List EntryId} (hy : c.entries[e] = some y) (hpin : y.pinCount = 0)
    (hrec : c.recency = before ++ e :: after)
    (hafter : ∀ f ∈ after, ∀ z, c.entries[f] = some z → z.pinCount = 0 → z.priority ≠ y.priority) :
    furthest c y.priority = some e := by
  have hnone : after.reverse.find? (fun f => c.entries[f].any fun z => z.pinCount == 0 && z.priority == y.priority) = none := by
    rw [List.find?_eq_none]
    intro f hf hz
    simp only [Option.any_eq_true, Bool.and_eq_true, beq_iff_eq] at hz
    obtain ⟨z, hz, hp, hpr⟩ := hz
    exact hafter f (List.mem_reverse.1 hf) z hz hp hpr
  unfold furthest
  rw [hrec, List.reverse_append, List.reverse_cons, List.append_assoc, List.find?_append, hnone]
  rw [Option.none_or, List.singleton_append, List.find?_cons_of_pos (by rw [hy]; simp [hpin])]

theorem furthest_eq_none {pr : Priority} (h : ∀ f ∈ c.recency, ∀ z, c.entries[f] = some z → z.pinCount = 0 → z.priority ≠ pr) :
    furthest c pr = none := by
  unfold furthest
  rw [List.find?_eq_none]
  intro f hf hz
  simp only [Option.any_eq_true, Bool.and_eq_true, beq_iff_eq] at hz
  obtain ⟨z, hz, hp, hpr⟩ := hz
  exact h f (List.mem_reverse.1 hf) z hz hp hpr

/-- The victim of R112. -/
theorem victim_eq_some {y : Entry} {before after : List EntryId} (hy : c.entries[e] = some y) (hpin : y.pinCount = 0)
    (hrec : c.recency = before ++ e :: after)
    (hafter : ∀ f ∈ after, ∀ z, c.entries[f] = some z → z.pinCount = 0 → z.priority ≠ y.priority)
    (hlowest : ∀ f ∈ c.recency, ∀ z, c.entries[f] = some z → z.pinCount = 0 → y.priority.code ≤ z.priority.code) :
    c.victim = some e := by
  have hfound := furthest_eq_some hy hpin hrec hafter
  have hbelow : ∀ pr : Priority, pr.code < y.priority.code → furthest c pr = none := fun pr hpr =>
    furthest_eq_none fun f hf z hz hp he => by
      have := hlowest f hf z hz hp
      rw [he] at this
      omega
  rw [victim_eq]
  cases hpr : y.priority with
  | low => rw [hpr] at hfound; rw [hfound]; rfl
  | medium =>
    rw [hpr] at hfound hbelow
    rw [hfound, hbelow .low (by decide)]; rfl
  | high =>
    rw [hpr] at hfound hbelow
    rw [hfound, hbelow .low (by decide), hbelow .medium (by decide)]; rfl

theorem victim_eq_none (h : ∀ (f : EntryId) (z : Entry), c.entries[f] = some z → z.pinCount ≠ 0) : c.victim = none := by
  have hnone : ∀ pr, furthest c pr = none := fun pr => furthest_eq_none fun f _ z hz hp => absurd hp (h f z hz)
  rw [victim_eq, hnone, hnone, hnone]; rfl

/-! ## The want satisfied -/

theorem satisfyWant_none (h : ∀ w ∈ x.cache.wants, (x.entry e).any (fun y => y.matchesProduct w.meter w.product) = false) :
    x.satisfyWant e = (x, none) := by
  unfold State.satisfyWant
  rw [List.find?_eq_none.2 fun w hw => by simpa using h w hw]

/-- The segment of a satisfied want. -/
def suppliedSegment (e : EntryId) (y : Entry) (g : Segment) : Segment :=
  { g with phase := .awaitInjector, entry := some e, calSerial := some y.calSerial, wantTimer := none }

/-- The oldest want that an entry matches is satisfied. -/
theorem satisfyWant_some {y : Entry} {w : Want} {before after : List Want} {g : Segment} (hy : x.entry e = some y)
    (hwants : x.cache.wants = before ++ w :: after) (hbefore : ∀ v ∈ before, y.matchesProduct v.meter v.product = false)
    (hw : y.matchesProduct w.meter w.product = true) (hseg : x.seg? w.arm = some g) :
    (x.satisfyWant e).2 = some w.arm
      ∧ (x.satisfyWant e).1.arm w.arm = { x.arm w.arm with status := .segment (suppliedSegment e y g) }
      ∧ OtherArms w.arm x (x.satisfyWant e).1
      ∧ (x.satisfyWant e).1.cache = { x.cache with
          entries := x.cache.entries.set e.val (some { y with pinCount := 1 }) e.isLt
          wants := x.cache.wants.filter fun u => u.arm != w.arm }
      ∧ OnlyMarks [.want] x (x.satisfyWant e).1 ∧ WantMarked x (x.satisfyWant e).1
      ∧ SameExcept [.arms, .cache, .att] x (x.satisfyWant e).1 := by
  have hfind : x.cache.wants.find? (fun u => (x.entry e).any fun z => z.matchesProduct u.meter u.product) = some w := by
    rw [hwants, List.find?_append, List.find?_eq_none.2 fun u hu => by simp [hy, hbefore u hu]]
    simp [hy, hw]
  have hmod : (x.modEntry e fun z => { z with pinCount := 1 }) = x.setEntry e (some { y with pinCount := 1 }) := by
    rw [State.modEntry, hy]; rfl
  have heq : x.satisfyWant e = ((((x.pin w.arm e).removeWant w.arm).modSeg w.arm fun g =>
      { g with wantTimer := none, phase := .awaitInjector }), some w.arm) := by
    unfold State.satisfyWant
    rw [hfind]
  have hpin : x.pin w.arm e = (x.setEntry e (some { y with pinCount := 1 })).modSeg w.arm fun g =>
      { g with entry := some e, calSerial := some y.calSerial } := by rw [State.pin, hmod, hy]; rfl
  have hpinArm : (x.pin w.arm e).arm w.arm = { x.arm w.arm with
      status := .segment { g with entry := some e, calSerial := some y.calSerial } } := by
    rw [hpin, modSeg_arm_of_seg? (g := g) (by exact hseg)]; rfl
  have hpinAtt : (x.pin w.arm e).att = x.att := by rw [hpin]; simp
  have hpinWants : (x.pin w.arm e).cache.wants = x.cache.wants := by rw [hpin]; rfl
  obtain ⟨harms, -, hentries, hrecency⟩ := removeWant_frame (x.pin w.arm e) w.arm
  have hwants' := removeWant_wants (x.pin w.arm e) w.arm
  have harm := arm_of_arms harms
  obtain ⟨hedges, hocc, hmarks⟩ := removeWant_onlyMarks (x.pin w.arm e) w.arm
  have hwantMarked := removeWant_marked (x.pin w.arm e) w.arm
  have hsame := removeWant_same (x.pin w.arm e) w.arm
  rw [heq]
  dsimp only
  refine ⟨rfl, ?_, fun a ha => ?_, ?_, ⟨?_, ?_, fun src hsrc => ?_⟩, ?_, ?_⟩
  · rw [modSeg_arm_of_seg? (g := { g with entry := some e, calSerial := some y.calSerial }) (by rw [State.seg?, harm, hpinArm]; rfl), harm,
      hpinArm]
    rfl
  · rw [modSeg_arm_ne ha, harm, hpin, modSeg_arm_ne ha]; rfl
  · rw [State.modSeg_cache]
    generalize ((x.pin w.arm e).removeWant w.arm).cache = c at hentries hrecency hwants'
    cases c
    rw [hpin] at hentries hrecency hwants'
    dsimp only at hentries hrecency hwants'
    rw [hentries, hrecency, hwants']
    rfl
  · rw [State.modSeg_att, hedges, hpinAtt]
  · rw [State.modSeg_att, hocc, hpinAtt]
  · rw [State.modSeg_att, hmarks src hsrc, hpinAtt]
  · unfold WantMarked at hwantMarked ⊢
    rw [State.modSeg_att, State.modSeg_cache, hwantMarked, hpinAtt, hpinWants]
  · have hpinSame : SameExcept [.arms, .cache] x (x.pin w.arm e) := by rw [hpin]; simp [SameExcept]
    exact same_trans (same_trans hpinSame hsame (rs := [.arms, .cache, .att]) (by decide) (by decide)) (sameExcept_modSeg _ w.arm _)
      (by decide) (by decide)

end Sys2Proof.Machine.Arming
end

section
/-! PROFILE LOAD (concluded): its event in each placement (R111, R112, R113). -/

namespace Sys2Proof.Machine.Arming

variable {s t v : State} {e : EntryId} {y : Entry} {p : ProfileBody} {body : List Byte} {tag : Byte} {word : Word} {victim : Option Entry}

theorem writeEntry_entry (s : State) (e : EntryId) (y : Entry) : (s.writeEntry e y).entry e = some y := by
  simp [State.writeEntry, State.entry, State.setEntry, Cache.toFront]

/-! ## The want that waits for the entry -/

/-- A PROFILE LOAD that writes an entry and looks for a want that it satisfies. -/
def Writes (word : Word) (e : EntryId) (victim : Option Entry) (y : Entry) (body : List Byte) (s : State) : Prop :=
  profileLoad body s = (((s.writeEntry e y).satisfyWant e).1,
    .ok (loadReply word e victim ((s.writeEntry e y).satisfyWant e).2), ((s.writeEntry e y).satisfyWant e).2)

theorem profileLoad_owner (body : List Byte) (s : State) : owner 0x40 body s
    = ((profileLoad body s).1, (profileLoad body s).2.1, ((profileLoad body s).2.2.map Job.enterInjector).toList) := rfl

/-- No want waits for the entry. -/
theorem writes_unwanted (h : Writes word e victim y body s) (hlink : s.linkIdle)
    (hno : ∀ w ∈ s.cache.wants, y.matchesProduct w.meter w.product = false) (tag : Byte) :
    s.offer ⟨0x40, tag, body⟩ = State.answered 0x40 tag body (.ok (loadReply word e victim none)) (s.writeEntry e y) := by
  have hnone : (s.writeEntry e y).satisfyWant e = (s.writeEntry e y, none) := satisfyWant_none fun w hw => by
    rw [writeEntry_entry]
    exact hno w hw
  refine offer_plain hlink ?_
  unfold Writes at h
  rw [profileLoad_owner, h, hnone]
  rfl

/-- The oldest want that waits for the entry is satisfied, and its segment goes on to AWAIT_INJECTOR within the event. -/
theorem writes_wanted (h : Writes word e victim y body s) (hlink : s.linkIdle) {before after : List Want} {w : Want} {g : Segment} {o : Order}
    {l : Line} {q : Permit} {k : SlotId} (hwants : s.cache.wants = before ++ w :: after)
    (hbefore : ∀ u ∈ before, y.matchesProduct u.meter u.product = false) (hw : y.matchesProduct w.meter w.product = true)
    (hun : Uncounted w.arm g o l q s) (hload : (s.bay g.bay).state = .loading) (hk : o.noteSlot = some k) (hclaims : g.claims = [])
    (hundosed : g.undosed = 0#3) (htimer : g.injectorTimer = none) (tag : Byte) :
    ∃ v t : State, s.offer ⟨0x40, tag, body⟩ = State.answered 0x40 tag body (.ok (loadReply word e victim (some w.arm))) t
      ∧ v.arm w.arm = { s.arm w.arm with status := .segment (suppliedSegment e y g) }
      ∧ v.cache = { (s.writeEntry e y).cache with
          entries := s.cache.entries.set e.val (some { y with pinCount := 1 }) e.isLt
          wants := s.cache.wants.filter fun u => u.arm != w.arm }
      ∧ OnlyMarks [.want] s v ∧ WantMarked s v ∧ OtherArms w.arm s v ∧ SameExcept [.arms, .cache, .att] s v
      ∧ EntersInjector w.arm (suppliedSegment e y g) k v t := by
  obtain ⟨hseg, hcounted, hnet, hlen, -, hbound, horder, hline, hpermit, hused⟩ := hun
  obtain ⟨harm?, harm, hother, hcache, hmarks, hmarked, hsame⟩ :=
    satisfyWant_some (x := s.writeEntry e y) (writeEntry_entry s e y) hwants hbefore hw hseg
  have hoffer := offer_owner hlink (profileLoad_owner body s) (tag := tag)
  unfold Writes at h
  rw [h] at hoffer
  dsimp only at hoffer
  rw [harm?] at hoffer
  generalize ((s.writeEntry e y).satisfyWant e).1 = v at hoffer harm hother hcache hmarks hmarked hsame
  have hwritten : SameExcept [.cache] s (s.writeEntry e y) := by simp [SameExcept, State.writeEntry, State.setEntry]
  have hsameAll : SameExcept [.arms, .cache, .att] s v := same_trans hwritten hsame (by decide) (by decide)
  refine ⟨v, _, hoffer, harm, ?_, hmarks, hmarked, hother, hsameAll, ?_⟩
  · rw [hcache]
    simp [State.writeEntry, State.setEntry, Cache.toFront]
  · refine entersInjector (g := suppliedSegment e y g) (o := o) (l := l) (p := q) (n := Config.eventParts) ?_ hclaims hundosed htimer hk (by decide)
    obtain ⟨hpermits, horders, -, hbays, -⟩ := hsameAll
    refine ⟨by rw [State.seg?, harm]; rfl, hcounted, hnet, le_trans hlen (by decide), ?_, ?_, ?_, hline, ?_, hused⟩
    · rw [bay_of_bays (hbays.resolve_left (by simp))]; exact hbound
    · rw [bay_of_bays (hbays.resolve_left (by simp))]; exact hload
    · rw [order?_of_orders (horders.resolve_left (by simp))]; exact horder
    · rw [permit?_of_permits (hpermits.resolve_left (by simp))]; exact hpermit

/-! ## The placements -/

theorem pinners_nil (h : ∀ a g, s.seg? a = some g → g.entry ≠ some e) : s.pinners e = [] := by
  unfold State.pinners
  rw [List.filter_eq_nil_iff]
  intro a _ ha
  simp only [Option.any_eq_true, beq_iff_eq] at ha
  obtain ⟨g, hg, hge⟩ := ha
  exact h a g hg hge

theorem pinners_singleton {a : ArmId} {g : Segment} (hg : s.seg? a = some g) (hge : g.entry = some e)
    (honly : ∀ c h, s.seg? c = some h → h.entry = some e → c = a) : s.pinners e = [a] := by
  have hp : ∀ c ∈ allArms, (s.seg? c).any (fun h => h.entry == some e) = (c == a) := fun c _ => by
    rw [Bool.eq_iff_iff, Option.any_eq_true, beq_iff_eq]
    constructor
    · rintro ⟨h, hc, he⟩
      exact honly c h hc (by simpa using he)
    · rintro rfl
      exact ⟨g, hg, by simpa using hge⟩
  unfold State.pinners
  rw [List.filter_congr hp, List.filter_beq, List.count_eq_one_of_mem (l := allArms) (List.nodup_finRange _) (List.mem_finRange a)]
  rfl

theorem profileLoad_of_valid (hfits : Fits p) (hvalid : p.valid = true) (s : State) :
    profileLoad (profileBytes p) s = loadProfile p s := by rw [profileLoad_written hfits, hvalid]; rfl

section
variable (hload : profileLoad body s = loadProfile p s)
include hload

theorem writes_inPlace {x : Entry} (hplace : s.cache.placement p.meter p.base p.span = .inPlace e) (hx : s.entry e = some x)
    (hpinners : s.pinners e = []) : Writes .inPlace e none (p.entry x.pinCount) body s := by
  unfold Writes
  rw [hload, loadProfile, hplace]
  dsimp only
  rw [hpinners, hx]
  rfl

theorem writes_freeSlot (hplace : s.cache.placement p.meter p.base p.span = .freeSlot e) :
    Writes .freeSlot e none (p.entry 0) body s := by
  unfold Writes
  rw [hload, loadProfile, hplace]

theorem writes_evicted {x : Entry} (hplace : s.cache.placement p.meter p.base p.span = .evicted e) (hx : s.entry e = some x) :
    Writes .evicted e (some x) (p.entry 0) body s := by
  unfold Writes
  rw [hload, loadProfile, hplace]
  dsimp only
  rw [hx]

/-- A pinned entry overwritten in place (R113). -/
theorem profileLoad_reloads {x : Entry} {a : ArmId} {g : Segment} (hplace : s.cache.placement p.meter p.base p.span = .inPlace e)
    (hx : s.entry e = some x) (hg : s.seg? a = some g) (hpinners : s.pinners e = [a])
    (hno : ∀ w ∈ s.cache.wants, (p.entry x.pinCount).matchesProduct w.meter w.product = false) :
    profileLoad body s = ((s.writeEntry e (p.entry x.pinCount)).modArm a fun y => { y with
        status := .segment { g with
          calSerial := some p.calSerial, mixedCal := g.mixedCal || decide (g.calSerial ≠ some p.calSerial) } },
      .ok (loadReply .inPlace e none none), none) := by
  have hreload : (s.writeEntry e (p.entry x.pinCount)).modSeg a (Segment.reload p.calSerial)
      = (s.writeEntry e (p.entry x.pinCount)).modArm a fun y => { y with
        status := .segment { g with
          calSerial := some p.calSerial, mixedCal := g.mixedCal || decide (g.calSerial ≠ some p.calSerial) } } := by
    have hbit : (g.calSerial != some p.calSerial) = decide (g.calSerial ≠ some p.calSerial) := by
      rw [Bool.eq_iff_iff, bne_iff_ne, decide_eq_true_eq]
    have harm : Arm.modSeg (Segment.reload p.calSerial) (s.arm a) = { s.arm a with
        status := .segment { g with
          calSerial := some p.calSerial, mixedCal := g.mixedCal || decide (g.calSerial ≠ some p.calSerial) } } := by
      rw [modSeg_of_status (status_of_seg? hg), ← hbit]
      rfl
    unfold State.modSeg State.modArm
    rw [show Arm.modSeg (Segment.reload p.calSerial) (s.writeEntry e (p.entry x.pinCount)).arms[a] = _ from harm]
    rfl
  rw [hload, loadProfile, hplace]
  dsimp only
  rw [hpinners, hx]
  dsimp only [List.foldl_cons, List.foldl_nil, Option.map_some, Option.getD_some]
  rw [hreload, satisfyWant_none]
  intro w hw
  rw [State.modArm_entry, writeEntry_entry]
  exact hno w hw

end

/-! ## The obligation -/

theorem matches_iff (p : ProfileBody) (n : Nat) (w : Want) :
    (p.entry n).matchesProduct w.meter w.product = true ↔ w.meter = p.meter ∧ w.product / 10 ^ p.span = p.base / 10 ^ p.span := by
  show (p.meter == w.meter && w.product / 10 ^ p.span == p.base / 10 ^ p.span) = true ↔ _
  rw [Bool.and_eq_true, beq_iff_eq, beq_iff_eq, eq_comm (a := p.meter)]

/-- Settles O45. -/
theorem profileLoad : Obligations.ProfileLoad := by
  unfold Obligations.ProfileLoad
  constructor
  · intro s tag m base span pr kn alpha low slow adv tol ser curve hlink hm hb hs hpr hkn hal hlow hslow hadv htol hser hcount hcurve body hbad
    have hbody : body = profileBytes ⟨m, base, span, pr, kn, alpha, low, slow, adv, tol, ser, curve.map fun c => ⟨c.1, c.2⟩⟩ := by
      simp [body, profileBytes, List.flatMap_map]
    have hfits : Fits ⟨m, base, span, pr, kn, alpha, low, slow, adv, tol, ser, curve.map fun c => ⟨c.1, c.2⟩⟩ := by
      refine ⟨hm, hb, hs, hpr, hkn, hal, hlow, hslow, hadv, htol, hser, by simp; omega, fun c hc => ?_⟩
      obtain ⟨d, hd, rfl⟩ := List.mem_map.1 hc
      exact hcurve d hd
    have hinvalid : ProfileBody.valid ⟨m, base, span, pr, kn, alpha, low, slow, adv, tol, ser, curve.map fun c => ⟨c.1, c.2⟩⟩ = false := by
      refine not_valid ?_
      simpa [List.pairwise_map] using hbad
    have hrun := profileLoad_written hfits s
    rw [hinvalid] at hrun
    refine congrArg Host.Outcome.next (offer_plain hlink ?_)
    rw [hbody, profileLoad_owner, hrun]
    rfl
  · intro s tag m base span pr kn alpha low slow adv tol ser q1 f1 q2 f2 hlink hm hb1 hb2 hs hdiv hpr hkn1 hkn2 hal hlow hslow hadv htol hser hq hq2
      hf1 hf1' hf2 hf2' body entry tagged written wanted loaded
    have hbody : body = profileBytes ⟨m, base, span, pr, kn, alpha, low, slow, adv, tol, ser, [⟨q1, f1⟩, ⟨q2, f2⟩]⟩ := by
      simp [body, profileBytes]
    generalize hp : (⟨m, base, span, pr, kn, alpha, low, slow, adv, tol, ser, [⟨q1, f1⟩, ⟨q2, f2⟩]⟩ : ProfileBody) = p at hbody
    have hfits : Fits p := by
      subst hp
      refine ⟨le_trans hm (by decide), le_trans hb2 (by decide), le_trans hs (by decide), le_trans hpr (by decide), le_trans hkn2 (by decide),
        le_trans hal (by decide), le_trans hlow (by decide), le_trans hslow (by decide), le_trans hadv (by decide), le_trans htol (by decide),
        hser, by simp, ?_⟩
      simp
      omega
    have hvalid : p.valid = true := by
      subst hp
      rw [valid_iff]
      simp only [List.length_cons, List.length_nil, List.pairwise_pair]
      refine ⟨hm, hs, hb1, hb2, hdiv, hpr, hkn1, hkn2, by decide, by decide, ?_, hq, hal, hlow, hslow, hadv, htol⟩
      simp
      omega
    have hload := profileLoad_of_valid hfits hvalid s
    rw [← hbody] at hload
    have hwanted : ∀ n w, (p.entry n).matchesProduct w.meter w.product = true ↔ wanted w := fun n w => by
      subst hp; exact matches_iff _ n w
    have hunwanted : ∀ n w, ¬ wanted w → (p.entry n).matchesProduct w.meter w.product = false := fun n w hw =>
      Bool.eq_false_iff.2 (mt (hwanted n w).1 hw)
    have hloaded : ∀ (word : Word) (code : Byte) (e : EntryId) (victim : Option Entry) (bytes : List Byte) (pins : Nat),
        (∀ a : Option ArmId, loadReply word e victim a = [code] ++ b1 e.val ++ bytes ++ b1 (orCode 0xFF (a.map (·.val)))) →
        Writes word e victim (p.entry pins) body s → loaded code e bytes (written e pins) := by
      intro word code e victim bytes pins hreply hwrites
      have hentry : ∀ n, p.entry n = entry n := fun n => by subst hp; rfl
      refine ⟨fun hno => ?_, fun before w after g o l q k hwants hbefore hw hun hloading hk hclaims hundosed htimer => ?_⟩
      · have hrun := writes_unwanted hwrites hlink (fun w hw => hunwanted pins w (hno w hw)) tag
        rw [hreply, hentry] at hrun
        exact congrArg Host.Outcome.next hrun
      · obtain ⟨v, t, hrun, harm, hcache, hmarks, hmarked, hother, hsame, henters⟩ := writes_wanted hwrites hlink hwants
          (fun u hu => hunwanted pins u (hbefore u hu)) ((hwanted pins w).2 hw) hun hloading hk hclaims hundosed htimer tag
        rw [hreply] at hrun
        subst hp
        exact ⟨v, t, congrArg Host.Outcome.next hrun, harm, hcache, hmarks, hmarked, hother, hsame, henters⟩
    refine ⟨fun e x htag honly hx hfree => ?_, fun e x a g htag honly hx hg hge honlyArm hno => ?_, fun e hnot hnone hmin => ?_,
      fun e x before after hnot hfull hx hpin hrec hafter hlowest => ?_, fun hnot hfull hpinned => ?_⟩
    · have hplace : s.cache.placement p.meter p.base p.span = .inPlace e := by
        subst hp; exact placement_inPlace htag honly
      exact hloaded .inPlace 0x04 e none [0xFF, 0xFF, 0xFF, 0xFF] x.pinCount (fun _ => rfl)
        (writes_inPlace hload hplace hx (pinners_nil hfree))
    · have hplace : s.cache.placement p.meter p.base p.span = .inPlace e := by
        subst hp; exact placement_inPlace htag honly
      have hrun := profileLoad_reloads hload hplace hx hg (pinners_singleton hg hge honlyArm) fun w hw => hunwanted _ w (hno w hw)
      refine congrArg Host.Outcome.next (offer_plain hlink ?_)
      rw [profileLoad_owner, hrun]
      subst hp
      rfl
    · have hplace : s.cache.placement p.meter p.base p.span = .freeSlot e := by
        subst hp; exact placement_freeSlot hnot hnone hmin
      exact hloaded .freeSlot 0x05 e none [0xFF, 0xFF, 0xFF, 0xFF] 0 (fun _ => rfl) (writes_freeSlot hload hplace)
    · have hplace : s.cache.placement p.meter p.base p.span = .evicted e := by
        subst hp
        rw [placement_full hnot hfull, victim_eq_some hx hpin hrec hafter hlowest]; rfl
      exact hloaded .evicted 0x06 e (some x) (b1 x.meter ++ b2 x.base ++ b1 x.span) 0 (fun _ => rfl) (writes_evicted hload hplace hx)
    · have hplace : s.cache.placement p.meter p.base p.span = .pinned := by
        subst hp
        rw [placement_full hnot hfull, victim_eq_none hpinned]; rfl
      have hrun : Sys2Proof.Machine.profileLoad body s = (s, .refuse .pinned, none) := by rw [hload, loadProfile, hplace]
      refine congrArg Host.Outcome.next (offer_plain hlink ?_)
      rw [profileLoad_owner, hrun]
      rfl

end Sys2Proof.Machine.Arming
end
